-- ==== Sys2Proof/Word.lean ====
section
/-! DEFINITION. The byte of the links and the names of the numbered things of the part: heads, event sources, joint groups,
tide page slots. -/

namespace Sys2Proof

/-- One byte of a head link or of the survey link (R1, R168). -/
abbrev Byte := BitVec 8

/-- A head, H0 to H3 (scope, section 6.1). -/
abbrev Head := Fin 4

/-- An event source, 0 to 7 (R120). -/
abbrev Source := Fin 8

/-- A joint group: 0 is JG1, 1 is JG2 (R132). -/
abbrev Group := Fin 2

/-- A slot of the tide page set (R45). -/
abbrev PageSlotId := Fin 3

/-- A slot of the context store (R105). -/
abbrev StoreSlotId := Fin 12

end Sys2Proof
end

