-- ==== Sys2Proof/Syntax.lean ====
section
/-! DEFINITION. The steps of the part (spec/opcode_table.json) and their operands. A command row carries the envelope of its
frame and its body; a body that does not have the form of its kind (R171, ground 4) is `malformed`. Scaled quantities are
integers in their resolution steps (scope, section 6.2; R178). -/

namespace Sys2Proof

/-- What a command frame's envelope tells the link controller (R173, R171): sender and sequence number. -/
structure Header where
  sender : Fin 4
  seq : Byte
  deriving DecidableEq, Repr

/-- A command body: of the form of its kind, or not (R171, ground 4). -/
inductive Body (α : Type) where
  | ok (a : α)
  | malformed
  deriving DecidableEq, Repr

/-- The five fault sources of a head, in the order of section 1.8 (R16). -/
inductive FaultCause where
  | linkError | silent | overrun | headStatus | calRange
  deriving DecidableEq, Repr

/-- Arbiter modes (R13, R14). -/
inductive ArbMode where
  | rotating | fixed
  deriving DecidableEq, Repr

/-- Modes of an event source (R120): the external lines take off, high, low, rising, falling; the internal ones off, on. -/
inductive SourceMode where
  | off | high | low | rising | falling | on
  deriving DecidableEq, Repr

/-- Entry state of OCC_OPEN and resume mode of a policy (R80, R75). -/
inductive EntryMode where
  | settling | held
  deriving DecidableEq, Repr

/-- The ten policy items of R75: tilt limit in 0.1 arc-second, rate limit in 0.001 degC per minute, gate in 0.1 microgal. -/
structure Policy where
  target : Nat
  minimum : Nat
  settle : Nat
  runLimit : Nat
  tiltLimit : Int
  rateLimit : Int
  gate : Int
  tideRequired : Bool
  resume : EntryMode
  resettle : Bool
  deriving DecidableEq, Repr

/-- The policy items an OCC_OPEN carries; an absent one comes from the default policy (R75). -/
structure PolicyItems where
  target : Option Nat
  minimum : Option Nat
  settle : Option Nat
  runLimit : Option Nat
  tiltLimit : Option Int
  rateLimit : Option Int
  gate : Option Int
  tideRequired : Option Bool
  resume : Option EntryMode
  resettle : Option Bool
  deriving DecidableEq, Repr

/-- One interval of a gravity table (R20): lower count, base value (0.1 microgal), factor (0.0001 microgal per count). -/
structure Interval where
  lower : Int
  base : Int
  factor : Int
  deriving DecidableEq, Repr

/-- The five tilt items (R20, R24): sensitivities in 0.0001 arc-second per count, gain in 0.0001. -/
structure TiltItems where
  offsetX : Int
  sensX : Int
  offsetY : Int
  sensY : Int
  gain : Int
  deriving DecidableEq, Repr

/-- The five temperature items (R20, R24): scale in 0.000001 degC per count, reference in 0.001 degC, alpha in 0.001 microgal
per degC, tau in seconds. -/
structure TempItems where
  offset : Int
  scale : Int
  reference : Int
  alpha : Int
  tau : Nat
  deriving DecidableEq, Repr

/-- A TABLE part of CAL_STAGE (R23). -/
structure TablePart where
  first : Nat
  intervals : List Interval
  newLength : Option Nat
  upper : Option Int
  deriving DecidableEq, Repr

/-- The part a CAL_STAGE carries (R22). -/
inductive CalPart where
  | table (t : TablePart)
  | tilt (t : TiltItems)
  | temperature (t : TempItems)
  deriving DecidableEq, Repr

/-- What a CAL_READ asks for (R28): a TABLE part names a first index. -/
inductive CalReadPart where
  | table (first : Nat)
  | tilt
  | temperature
  deriving DecidableEq, Repr

/-- One constituent of a tide page (section 3.4): amplitude in 0.001 microgal, argument in 0.0001 deg, speed in 0.0001 deg/h. -/
structure Constituent where
  code : Nat
  species : Nat
  amplitude : Nat
  argument : Int
  speed : Int
  deriving DecidableEq, Repr

/-- A position (R58): latitude and longitude in 0.000001 deg, height in 0.1 m. -/
structure Position where
  lat : Int
  lon : Int
  height : Int
  deriving DecidableEq, Repr

/-- One entry of an adjustment list (R58): factor in 0.001, lag in 0.0001 deg. -/
structure AdjEntry where
  code : Nat
  factor : Int
  lag : Int
  deriving DecidableEq, Repr

/-- HEAD_SETUP (R4). -/
structure HeadSetupParams where
  head : Nat
  enable : Bool
  latency : Nat
  silence : Nat
  notify : BitVec 5
  halt : BitVec 5
  deriving DecidableEq, Repr

/-- SENDER_SET (R174). -/
structure SenderSetParams where
  sender : Nat
  groups : Option (BitVec 7)
  deriving DecidableEq, Repr

/-- ARB_SET (R15). -/
structure ArbSetParams where
  mode : ArbMode
  limit : Nat
  deriving DecidableEq, Repr

/-- FAULT_CLEAR (R18). -/
structure FaultClearParams where
  head : Nat
  causes : BitVec 5
  deriving DecidableEq, Repr

/-- One entry of EVT_SETUP (R129). -/
structure EvtEntry where
  source : Nat
  mode : SourceMode
  masked : Bool
  notify : Bool
  deriving DecidableEq, Repr

/-- GROUP_SET (R133): a target and a wait limit, or neither. -/
structure GroupSetParams where
  group : Group
  settings : Option (Nat × Nat)
  deriving DecidableEq, Repr

/-- STREAM_SELECT (R152): classes ACCEPTED, REJECTED, DISCARDED, UNBOUND and flags GAP, BACKLOG, TIDE_ABSENT, CAL_RANGE are
bits 0 to 3. -/
structure StreamSelectParams where
  selector : Nat
  enable : Bool
  heads : BitVec 4
  classes : BitVec 4
  mask : BitVec 4
  value : BitVec 4
  deriving DecidableEq, Repr

/-- CAL_STAGE (R22). -/
structure CalStageParams where
  head : Nat
  part : CalPart
  deriving DecidableEq, Repr

/-- CAL_READ (R28). -/
structure CalReadParams where
  head : Nat
  staged : Bool
  part : CalReadPart
  deriving DecidableEq, Repr

/-- PAGE_OPEN (R46): span length in seconds. -/
structure PageOpenParams where
  number : Nat
  start : Nat
  length : Nat
  deriving DecidableEq, Repr

/-- PAGE_ADD (R47). -/
structure PageAddParams where
  number : Nat
  terms : List Constituent
  deriving DecidableEq, Repr

/-- TIDE_QUERY (R57). -/
structure TideQueryParams where
  station : Nat
  time : Option Nat
  deriving DecidableEq, Repr

/-- STN_PUT (R64): the gravimetric factor in 0.001. -/
structure StnPutParams where
  station : Nat
  pos : Position
  delta : Int
  adjust : List AdjEntry
  deriving DecidableEq, Repr

/-- STN_LIST (R68). -/
structure StnListParams where
  bucket : Nat
  position : Nat
  deriving DecidableEq, Repr

/-- OCC_OPEN (section 5.3): the inline position may carry an inline gravimetric factor. -/
structure OccOpenParams where
  tag : Nat
  head : Nat
  station : Nat
  entry : EntryMode
  items : PolicyItems
  group : Option Group
  wake : BitVec 8
  hold : BitVec 8
  inline : Option (Position × Option Int)
  deriving DecidableEq, Repr

/-- OCC_SWAP (R112). -/
structure OccSwapParams where
  active : Nat
  parked : Nat
  deriving DecidableEq, Repr

/-- OCC_CLONE (R114). -/
structure OccCloneParams where
  source : Nat
  tag : Nat
  head : Nat
  deriving DecidableEq, Repr

/-- DUMP_START (R161). -/
structure DumpStartParams where
  head : Nat
  first : Nat
  count : Nat
  block : Nat
  quiet : Bool
  deriving DecidableEq, Repr

/-- The steps of the part: one constructor per row of spec/opcode_table.json, in its order. -/
inductive Instr where
  | headFrame (n : Head) (bytes : List Byte)
  | silenceExpiry (n : Head)
  | correctionComplete
  | flushExpiry (n : Head)
  | settleExpiry (n : Head)
  | gatheringExpiry (g : Group)
  | limitExpiry (n : Head)
  | readingJoin
  | timeMark
  | lossExpiry
  | pageRetirement (k : PageSlotId)
  | spanStart
  | eventLineChange (line : Fin 4) (level : Bool)
  | eventDispatch
  | surveyFrame (bytes : List Byte)
  | linkReady (level : Bool)
  | transmissionComplete
  | dumpBlock
  | coldStart
  | loadComplete
  | saveComplete (written : Bool)
  | unknownKindCommand (h : Header) (kind : Byte)
  | status (h : Header) (b : Body Bool)
  | senderSet (h : Header) (b : Body SenderSetParams)
  | save (h : Header) (b : Body Unit)
  | restart (h : Header) (b : Body Unit)
  | headSetup (h : Header) (b : Body HeadSetupParams)
  | setPlan (h : Header) (b : Body Nat)
  | arbSet (h : Header) (b : Body ArbSetParams)
  | faultClear (h : Header) (b : Body FaultClearParams)
  | evtSetup (h : Header) (b : Body (List EvtEntry))
  | evtClear (h : Header) (b : Body (BitVec 8))
  | groupSet (h : Header) (b : Body GroupSetParams)
  | queueMarks (h : Header) (b : Body (Option (Nat × Nat)))
  | streamSelect (h : Header) (b : Body StreamSelectParams)
  | streamBatch (h : Header) (b : Body (Option (Nat × Nat)))
  | calStage (h : Header) (b : Body CalStageParams)
  | calCommit (h : Header) (b : Body Nat)
  | calDiscard (h : Header) (b : Body Nat)
  | calRead (h : Header) (b : Body CalReadParams)
  | setTime (h : Header) (b : Body Nat)
  | pageOpen (h : Header) (b : Body PageOpenParams)
  | pageAdd (h : Header) (b : Body PageAddParams)
  | pageCommit (h : Header) (b : Body Nat)
  | pageDrop (h : Header) (b : Body Nat)
  | pageList (h : Header) (b : Body (Option (Nat × Nat)))
  | tideQuery (h : Header) (b : Body TideQueryParams)
  | stnPut (h : Header) (b : Body StnPutParams)
  | stnDelete (h : Header) (b : Body Nat)
  | stnAge (h : Header) (b : Body Unit)
  | stnGet (h : Header) (b : Body Nat)
  | stnList (h : Header) (b : Body StnListParams)
  | occOpen (h : Header) (b : Body OccOpenParams)
  | occHold (h : Header) (b : Body Nat)
  | occRelease (h : Header) (b : Body Nat)
  | occClose (h : Header) (b : Body Nat)
  | occAbort (h : Header) (b : Body Nat)
  | occDefaults (h : Header) (b : Body Policy)
  | occQuery (h : Header) (b : Body (Option Nat))
  | occPark (h : Header) (b : Body Nat)
  | occUnpark (h : Header) (b : Body Nat)
  | occSwap (h : Header) (b : Body OccSwapParams)
  | occClone (h : Header) (b : Body OccCloneParams)
  | dumpStart (h : Header) (b : Body DumpStartParams)
  | dumpStop (h : Header) (b : Body Unit)
  deriving DecidableEq, Repr

/-- The seven permission groups (R173), in the rule's order: group n is bit n of a sender's set. -/
inductive PermGroup where
  | setup | calibration | clockTide | stations | occupy | archive | admin
  deriving DecidableEq, Repr

/-- The command kinds of the catalogue (section 10.6). -/
inductive Kind where
  | status | senderSet | save | restart | headSetup | setPlan | arbSet | faultClear | evtSetup | evtClear | groupSet
  | queueMarks | streamSelect | streamBatch | calStage | calCommit | calDiscard | calRead | setTime | pageOpen | pageAdd
  | pageCommit | pageDrop | pageList | tideQuery | stnPut | stnDelete | stnAge | stnGet | stnList | occOpen | occHold
  | occRelease | occClose | occAbort | occDefaults | occQuery | occPark | occUnpark | occSwap | occClone | dumpStart | dumpStop
  deriving DecidableEq, Repr

end Sys2Proof
end

