-- ==== Sys2Proof/Config.lean ====
section
/-! DEFINITION. What the part is built with (its capacities) and what a settings image holds (R180). The free values, which the spec leaves open, are the opaque constants at the end. -/

namespace Sys2Proof

/-- A calibration record without its version (R20). -/
structure CalRecord where
  intervals : List Interval
  upper : Int
  tilt : TiltItems
  temp : TempItems
  deriving DecidableEq, Repr

/-- A head's committed calibration record with its version, 1 to 65535 (R20). -/
structure Committed where
  record : CalRecord
  version : Nat
  deriving DecidableEq, Repr

/-- The HEAD_SETUP settings of a head (section 1.2): latency in ms, silence limit in s. -/
structure HeadSettings where
  enable : Bool
  latency : Nat
  silence : Nat
  notify : BitVec 5
  halt : BitVec 5
  deriving DecidableEq, Repr

/-- The settings of an event source (R120). -/
structure SourceSettings where
  mode : SourceMode
  masked : Bool
  notify : Bool
  deriving DecidableEq, Repr

/-- The settings of a joint group (R132): wait limit in s. -/
structure GroupSettings where
  target : Nat
  waitLimit : Nat
  deriving DecidableEq, Repr

/-- A stream selector (R151). -/
structure Selector where
  enable : Bool
  heads : BitVec 4
  classes : BitVec 4
  mask : BitVec 4
  value : BitVec 4
  deriving DecidableEq, Repr

/-- The items of R180, in the order of its table: the settings in force, and what an image keeps. -/
structure Settings where
  heads : Vector HeadSettings 4
  plan : Fin 4
  arbMode : ArbMode
  arbLimit : Nat
  cal : Vector Committed 4
  sources : Vector SourceSettings 8
  groups : Vector GroupSettings 2
  high : Nat
  low : Nat
  selectors : Vector Selector 4
  threshold : Nat
  flush : Nat
  senders : Vector (BitVec 7) 3
  policy : Policy
  deriving DecidableEq, Repr

namespace Config

/-- Greatest survey time, 2^48 - 1 ms (R39). -/
def maxTime : Nat := 281474976710655

/-- Entries of the outbound queue (R140). -/
def queueSize : Nat := 48

/-- Frames of the command intake (R169). -/
def intakeSize : Nat := 4

/-- Greatest value of the saturating counts (R1, R5, R10, R76, R146, R168). -/
def countMax : Nat := 65535

/-- Overflow entries of the station table (section 4.2). -/
def overflowSize : Nat := 64

/-- FREE VALUE (log 10). The sample time of a frame whose anchored time lies beyond the 48-bit survey time: R7 gives the sum,
and the stamp only for a sum below 0. -/
opaque sampleTimeBeyond : Int → BitVec 48

/-- FREE VALUE (log 11). The bytes, as a number, of an outbound field of so many bytes whose value its encoding cannot hold
(R178 states what happens only for a command's fields). -/
opaque unheldField : Nat → Int → Nat

/-- FREE VALUE (log 26). Whether the k-th time that a transmission has freed an entry, a frame waits and another claimant of R143 is
at hand, the link controller is the first to claim the entry: R143 allows both orders. -/
opaque controllerFirst : Nat → Bool

end Config

end Sys2Proof
end

