-- ==== Sys2Proof/Machine/Kinds.lean ====
section
/-! DEFINITION. The catalogue of command kinds (section 10.6): codes, permission groups (R173), and which steps are frames. -/

namespace Sys2Proof

/-- The code of a command kind (section 10.6, catalogue). -/
def Kind.code : Kind → Nat
  | .status => 0x01 | .senderSet => 0x02 | .save => 0x03 | .restart => 0x04
  | .headSetup => 0x10 | .setPlan => 0x11 | .arbSet => 0x12 | .faultClear => 0x13
  | .evtSetup => 0x14 | .evtClear => 0x15 | .groupSet => 0x16
  | .queueMarks => 0x17 | .streamSelect => 0x18 | .streamBatch => 0x19
  | .calStage => 0x20 | .calCommit => 0x21 | .calDiscard => 0x22 | .calRead => 0x23
  | .setTime => 0x28 | .pageOpen => 0x29 | .pageAdd => 0x2A | .pageCommit => 0x2B | .pageDrop => 0x2C
  | .pageList => 0x2D | .tideQuery => 0x2E
  | .stnPut => 0x30 | .stnDelete => 0x31 | .stnAge => 0x32 | .stnGet => 0x33 | .stnList => 0x34
  | .occOpen => 0x40 | .occHold => 0x41 | .occRelease => 0x42 | .occClose => 0x43 | .occAbort => 0x44
  | .occDefaults => 0x45 | .occQuery => 0x46
  | .occPark => 0x48 | .occUnpark => 0x49 | .occSwap => 0x4A | .occClone => 0x4B
  | .dumpStart => 0x50 | .dumpStop => 0x51

/-- Every kind of the catalogue. -/
def Kind.all : List Kind :=
  [.status, .senderSet, .save, .restart, .headSetup, .setPlan, .arbSet, .faultClear, .evtSetup, .evtClear, .groupSet,
    .queueMarks, .streamSelect, .streamBatch, .calStage, .calCommit, .calDiscard, .calRead, .setTime, .pageOpen, .pageAdd,
    .pageCommit, .pageDrop, .pageList, .tideQuery, .stnPut, .stnDelete, .stnAge, .stnGet, .stnList, .occOpen, .occHold,
    .occRelease, .occClose, .occAbort, .occDefaults, .occQuery, .occPark, .occUnpark, .occSwap, .occClone, .dumpStart,
    .dumpStop]

/-- The command kind a kind byte names, if any (R171, ground 1). -/
def Kind.ofCode (c : Nat) : Option Kind := Kind.all.find? fun k => k.code == c

/-- The command kind of a command row, none for the other steps (section 10.6). -/
def Instr.kind : Instr → Option Kind
  | .headFrame _ _ | .silenceExpiry _ | .correctionComplete | .flushExpiry _ | .settleExpiry _ | .gatheringExpiry _
  | .limitExpiry _ | .readingJoin | .timeMark | .lossExpiry | .pageRetirement _ | .spanStart | .eventLineChange _ _
  | .eventDispatch | .surveyFrame _ | .linkReady _ | .transmissionComplete | .dumpBlock | .coldStart | .loadComplete
  | .saveComplete _ | .unknownKindCommand _ _ => none
  | .status _ _ => some .status | .senderSet _ _ => some .senderSet | .save _ _ => some .save
  | .restart _ _ => some .restart | .headSetup _ _ => some .headSetup | .setPlan _ _ => some .setPlan
  | .arbSet _ _ => some .arbSet | .faultClear _ _ => some .faultClear | .evtSetup _ _ => some .evtSetup
  | .evtClear _ _ => some .evtClear | .groupSet _ _ => some .groupSet | .queueMarks _ _ => some .queueMarks
  | .streamSelect _ _ => some .streamSelect | .streamBatch _ _ => some .streamBatch | .calStage _ _ => some .calStage
  | .calCommit _ _ => some .calCommit | .calDiscard _ _ => some .calDiscard | .calRead _ _ => some .calRead
  | .setTime _ _ => some .setTime | .pageOpen _ _ => some .pageOpen | .pageAdd _ _ => some .pageAdd
  | .pageCommit _ _ => some .pageCommit | .pageDrop _ _ => some .pageDrop | .pageList _ _ => some .pageList
  | .tideQuery _ _ => some .tideQuery | .stnPut _ _ => some .stnPut | .stnDelete _ _ => some .stnDelete
  | .stnAge _ _ => some .stnAge | .stnGet _ _ => some .stnGet | .stnList _ _ => some .stnList
  | .occOpen _ _ => some .occOpen | .occHold _ _ => some .occHold | .occRelease _ _ => some .occRelease
  | .occClose _ _ => some .occClose | .occAbort _ _ => some .occAbort | .occDefaults _ _ => some .occDefaults
  | .occQuery _ _ => some .occQuery | .occPark _ _ => some .occPark | .occUnpark _ _ => some .occUnpark
  | .occSwap _ _ => some .occSwap | .occClone _ _ => some .occClone | .dumpStart _ _ => some .dumpStart
  | .dumpStop _ _ => some .dumpStop

/-- The step is the arrival of a frame on the survey link: a command of the catalogue or one of an unknown kind. -/
def Instr.isFrame (i : Instr) : Bool :=
  i.kind.isSome || match i with
    | .unknownKindCommand _ _ => true
    | _ => false

/-- The permission group of a command kind, none for a query (section 10.6, R173). -/
def Kind.group : Kind → Option PermGroup
  | .status | .calRead | .pageList | .tideQuery | .stnGet | .stnList | .occQuery => none
  | .senderSet | .save | .restart => some .admin
  | .headSetup | .setPlan | .arbSet | .faultClear | .evtSetup | .evtClear | .groupSet | .queueMarks | .streamSelect
  | .streamBatch => some .setup
  | .calStage | .calCommit | .calDiscard => some .calibration
  | .setTime | .pageOpen | .pageAdd | .pageCommit | .pageDrop => some .clockTide
  | .stnPut | .stnDelete | .stnAge => some .stations
  | .occOpen | .occHold | .occRelease | .occClose | .occAbort | .occDefaults | .occPark | .occUnpark | .occSwap
  | .occClone => some .occupy
  | .dumpStart | .dumpStop => some .archive

/-- Position of a permission group in the list of R173: its bit in a sender's set (R178). -/
def PermGroup.bit : PermGroup → Nat
  | .setup => 0 | .calibration => 1 | .clockTide => 2 | .stations => 3 | .occupy => 4 | .archive => 5 | .admin => 6

end Sys2Proof
end

