-- ==== Sys2Proof/WellFormed.lean ====
section
/-! DEFINITION. Well-formed steps: every operand can be held by the field that carries it on the wire (R178), and the kind of
an UNKNOWN_KIND_COMMAND is no command kind (R171). Whether a value lies in its own range is not tested here: the command's
rule refuses it. -/

namespace Sys2Proof

/-- The value fits an unsigned field of so many bytes (R178). -/
def fitsU (bytes n : Nat) : Bool := n < 256 ^ bytes

/-- The value fits a signed, two's complement field of so many bytes (R178). -/
def fitsS (bytes : Nat) (z : Int) : Bool :=
  -(128 * 256 ^ (bytes - 1) : Int) ≤ z && z < (128 * 256 ^ (bytes - 1) : Int)

/-- An optional item fits. -/
def fitsOpt {α : Type} (f : α → Bool) : Option α → Bool
  | none => true
  | some a => f a

/-- A list fits: one count byte, then its entries (R178). -/
def fitsList {α : Type} (f : α → Bool) (l : List α) : Bool := fitsU 1 l.length && l.all f

/-- A body fits; a malformed one is a body too. -/
def Body.fits {α : Type} (f : α → Bool) : Body α → Bool
  | .ok a => f a
  | .malformed => true

def HeadSetupParams.fits (p : HeadSetupParams) : Bool := fitsU 1 p.head && fitsU 4 p.latency && fitsU 2 p.silence

def SenderSetParams.fits (p : SenderSetParams) : Bool := fitsU 1 p.sender

def ArbSetParams.fits (p : ArbSetParams) : Bool := fitsU 1 p.limit

def FaultClearParams.fits (p : FaultClearParams) : Bool := fitsU 1 p.head

def EvtEntry.fits (e : EvtEntry) : Bool := fitsU 1 e.source

def GroupSetParams.fits (p : GroupSetParams) : Bool := fitsOpt (fun t => fitsU 1 t.1 && fitsU 2 t.2) p.settings

def StreamSelectParams.fits (p : StreamSelectParams) : Bool := fitsU 1 p.selector

def Interval.fits (i : Interval) : Bool := fitsS 4 i.lower && fitsS 6 i.base && fitsS 4 i.factor

def CalPart.fits : CalPart → Bool
  | .table t => fitsU 1 t.first && fitsList Interval.fits t.intervals && fitsOpt (fitsU 1) t.newLength && fitsOpt (fitsS 4) t.upper
  | .tilt t => fitsS 4 t.offsetX && fitsS 4 t.sensX && fitsS 4 t.offsetY && fitsS 4 t.sensY && fitsS 4 t.gain
  | .temperature t => fitsS 4 t.offset && fitsS 4 t.scale && fitsS 4 t.reference && fitsS 4 t.alpha && fitsU 2 t.tau

def CalStageParams.fits (p : CalStageParams) : Bool := fitsU 1 p.head && p.part.fits

def CalReadParams.fits (p : CalReadParams) : Bool :=
  fitsU 1 p.head && match p.part with
    | .table k => fitsU 1 k
    | .tilt => true
    | .temperature => true

def PageOpenParams.fits (p : PageOpenParams) : Bool := fitsU 1 p.number && fitsU 6 p.start && fitsU 4 p.length

def Constituent.fits (c : Constituent) : Bool :=
  fitsU 1 c.code && fitsU 1 c.species && fitsU 4 c.amplitude && fitsS 4 c.argument && fitsS 4 c.speed

def PageAddParams.fits (p : PageAddParams) : Bool := fitsU 1 p.number && fitsList Constituent.fits p.terms

def TideQueryParams.fits (p : TideQueryParams) : Bool := fitsU 3 p.station && fitsOpt (fitsU 6) p.time

def Position.fits (p : Position) : Bool := fitsS 4 p.lat && fitsS 4 p.lon && fitsS 4 p.height

def AdjEntry.fits (e : AdjEntry) : Bool := fitsU 1 e.code && fitsS 4 e.factor && fitsS 4 e.lag

def StnPutParams.fits (p : StnPutParams) : Bool :=
  fitsU 3 p.station && p.pos.fits && fitsS 4 p.delta && fitsList AdjEntry.fits p.adjust

def StnListParams.fits (p : StnListParams) : Bool := fitsU 1 p.bucket && fitsU 1 p.position

def PolicyItems.fits (p : PolicyItems) : Bool :=
  fitsOpt (fitsU 2) p.target && fitsOpt (fitsU 2) p.minimum && fitsOpt (fitsU 2) p.settle && fitsOpt (fitsU 2) p.runLimit &&
    fitsOpt (fitsS 4) p.tiltLimit && fitsOpt (fitsS 4) p.rateLimit && fitsOpt (fitsS 4) p.gate

def Policy.fits (p : Policy) : Bool :=
  fitsU 2 p.target && fitsU 2 p.minimum && fitsU 2 p.settle && fitsU 2 p.runLimit && fitsS 4 p.tiltLimit &&
    fitsS 4 p.rateLimit && fitsS 4 p.gate

def OccOpenParams.fits (p : OccOpenParams) : Bool :=
  fitsU 2 p.tag && fitsU 1 p.head && fitsU 3 p.station && p.items.fits &&
    fitsOpt (fun x => x.1.fits && fitsOpt (fitsS 4) x.2) p.inline

def OccSwapParams.fits (p : OccSwapParams) : Bool := fitsU 2 p.active && fitsU 2 p.parked

def OccCloneParams.fits (p : OccCloneParams) : Bool := fitsU 2 p.source && fitsU 2 p.tag && fitsU 1 p.head

def DumpStartParams.fits (p : DumpStartParams) : Bool :=
  fitsU 1 p.head && fitsU 4 p.first && fitsU 2 p.count && fitsU 1 p.block

/-- The step is well formed. -/
def Instr.wf : Instr → Bool
  | .headFrame _ _ | .silenceExpiry _ | .correctionComplete | .flushExpiry _ | .settleExpiry _ | .gatheringExpiry _
  | .limitExpiry _ | .readingJoin | .timeMark | .lossExpiry | .pageRetirement _ | .spanStart | .eventLineChange _ _
  | .eventDispatch | .surveyFrame _ | .linkReady _ | .transmissionComplete | .dumpBlock | .coldStart | .loadComplete
  | .saveComplete _ => true
  | .unknownKindCommand _ k => (Kind.ofCode k.toNat).isNone
  | .status _ _ | .save _ _ | .restart _ _ | .stnAge _ _ | .dumpStop _ _ | .evtClear _ _ => true
  | .senderSet _ b => b.fits SenderSetParams.fits
  | .headSetup _ b => b.fits HeadSetupParams.fits
  | .setPlan _ b | .calCommit _ b | .calDiscard _ b | .pageCommit _ b | .pageDrop _ b => b.fits (fitsU 1)
  | .arbSet _ b => b.fits ArbSetParams.fits
  | .faultClear _ b => b.fits FaultClearParams.fits
  | .evtSetup _ b => b.fits (fitsList EvtEntry.fits)
  | .groupSet _ b => b.fits GroupSetParams.fits
  | .queueMarks _ b => b.fits (fitsOpt fun m => fitsU 1 m.1 && fitsU 1 m.2)
  | .streamSelect _ b => b.fits StreamSelectParams.fits
  | .streamBatch _ b => b.fits (fitsOpt fun m => fitsU 1 m.1 && fitsU 4 m.2)
  | .calStage _ b => b.fits CalStageParams.fits
  | .calRead _ b => b.fits CalReadParams.fits
  | .setTime _ b => b.fits (fitsU 6)
  | .pageOpen _ b => b.fits PageOpenParams.fits
  | .pageAdd _ b => b.fits PageAddParams.fits
  | .pageList _ b => b.fits (fitsOpt fun m => fitsU 1 m.1 && fitsU 1 m.2)
  | .tideQuery _ b => b.fits TideQueryParams.fits
  | .stnPut _ b => b.fits StnPutParams.fits
  | .stnDelete _ b | .stnGet _ b => b.fits (fitsU 3)
  | .stnList _ b => b.fits StnListParams.fits
  | .occOpen _ b => b.fits OccOpenParams.fits
  | .occHold _ b | .occRelease _ b | .occClose _ b | .occAbort _ b | .occPark _ b | .occUnpark _ b => b.fits (fitsU 2)
  | .occDefaults _ b => b.fits Policy.fits
  | .occQuery _ b => b.fits (fitsOpt (fitsU 2))
  | .occSwap _ b => b.fits OccSwapParams.fits
  | .occClone _ b => b.fits OccCloneParams.fits
  | .dumpStart _ b => b.fits DumpStartParams.fits

end Sys2Proof
end

