-- ==== Sys2Proof/Decode.lean ====
section
/-! DEFINITION. From bytes to steps: the CRC-16 and the encodings of R178, the body of each command kind, and the step a valid
survey frame spells. Total on any bytes: a body that does not have the form of its kind is `malformed` (R171, ground 4), a kind
outside the catalogue is an UNKNOWN_KIND_COMMAND. The table gives no row any bits, so `decodeTableWord` answers none (log 20). -/

namespace Sys2Proof

/-! ## The CRC-16 of R178 -/

/-- One bit of the CRC-16: generator x^16 + x^12 + x^5 + 1, most significant bit first. -/
def crcBit (r : BitVec 16) (b : Bool) : BitVec 16 :=
  if r.msb != b then (r <<< 1) ^^^ 0x1021#16 else r <<< 1

/-- One byte of the CRC-16, most significant bit first. -/
def crcByte (r : BitVec 16) (b : Byte) : BitVec 16 :=
  crcBit (crcBit (crcBit (crcBit (crcBit (crcBit (crcBit (crcBit r (b.getLsbD 7)) (b.getLsbD 6)) (b.getLsbD 5)) (b.getLsbD 4))
    (b.getLsbD 3)) (b.getLsbD 2)) (b.getLsbD 1)) (b.getLsbD 0)

/-- The register after a run of bytes. The match changes nothing (`crcRun_eq`): it makes the register a number at each byte, so
that a long run can be evaluated. -/
def crcRun : BitVec 16 → List Byte → BitVec 16
  | r, [] => r
  | r, b :: l => match (crcByte r b).toNat with
    | 0 => crcRun 0#16 l
    | n + 1 => crcRun (BitVec.ofNat 16 (n + 1)) l

/-- The CRC-16 of a run of bytes: the register starts at FFFFh, no final inversion (R178). -/
def crc16 (bytes : List Byte) : BitVec 16 := crcRun 0xFFFF#16 bytes

/-- A CRC as sent: most significant byte first (R178). -/
def crcBytes (c : BitVec 16) : List Byte := [c.extractLsb' 8 8, c.extractLsb' 0 8]

/-! ## Integers (R178: least significant byte first, two's complement) -/

/-- The unsigned integer of a run of bytes. -/
def leNat : List Byte → Nat
  | [] => 0
  | b :: r => b.toNat + 256 * leNat r

/-- The signed integer of a run of bytes. -/
def leInt (bs : List Byte) : Int :=
  let v := leNat bs
  if 2 * v < 256 ^ bs.length then v else (v : Int) - (256 ^ bs.length : Nat)

/-- A reader takes bytes from the front of a body, or finds that the body is too short or holds a wrong value. -/
abbrev Reader (α : Type) := List Byte → Option (α × List Byte)

/-- An unsigned integer of n bytes. -/
def getU (n : Nat) : Reader Nat := fun bs => if bs.length < n then none else some (leNat (bs.take n), bs.drop n)

/-- A signed integer of n bytes. -/
def getS (n : Nat) : Reader Int := fun bs => if bs.length < n then none else some (leInt (bs.take n), bs.drop n)

/-- A flag: a byte 0 for no or clear, 1 for yes or set; any other byte does not match the form, like a presence byte that is
neither (log 12). -/
def getFlag : Reader Bool := fun bs => match bs with
  | b :: r => if b = 0#8 then some (false, r) else if b = 1#8 then some (true, r) else none
  | [] => none

/-- An enumeration: the position in the rule's list (R178). -/
def getEnum {α : Type} (l : List α) : Reader α := fun bs => match bs with
  | b :: r => (l[b.toNat]?).map fun a => (a, r)
  | [] => none

/-- A set over w members: one byte with no bit at or above w (R178). -/
def getSet (w : Nat) : Reader (BitVec w) := fun bs => match bs with
  | b :: r => if b.toNat < 2 ^ w then some (BitVec.ofNat w b.toNat, r) else none
  | [] => none

/-- An optional item: a presence byte 0 or 1, then the item (R178). -/
def getOpt {α : Type} (g : Reader α) : Reader (Option α) := fun bs => match bs with
  | b :: r =>
    if b = 0#8 then some (none, r)
    else if b = 1#8 then (g r).map fun x => (some x.1, x.2)
    else none
  | [] => none

/-- n items in a row. -/
def getMany {α : Type} (g : Reader α) : Nat → Reader (List α)
  | 0, bs => some ([], bs)
  | n + 1, bs => do
    let (a, bs) ← g bs
    let (l, bs) ← getMany g n bs
    some (a :: l, bs)

/-- A list: a count byte, then its entries (R178). -/
def getList {α : Type} (g : Reader α) : Reader (List α) := fun bs => do
  let (n, bs) ← getU 1 bs
  getMany g n bs

/-- A pair of items in a row. -/
def getPair {α β : Type} (f : Reader α) (g : Reader β) : Reader (α × β) := fun bs => do
  let (a, bs) ← f bs
  let (b, bs) ← g bs
  some ((a, b), bs)

/-- A whole body: the reader takes it all, or it is malformed (R171, ground 4: too short, too long, a wrong value). -/
def wholeBody {α : Type} (g : Reader α) (bs : List Byte) : Body α :=
  match g bs with
  | some (a, []) => .ok a
  | some (_, _ :: _) => .malformed
  | none => .malformed

/-! ## Bodies, in the order of each rule (R178; widths that its table does not settle: log 12) -/

def getNothing : Reader Unit := fun bs => some ((), bs)

/-- HEAD_SETUP (R4); the enable item, yes or no, is a flag, as every such item is, and the silence limit is a duration in 2 bytes (log
12). -/
def getHeadSetup : Reader HeadSetupParams := fun bs => do
  let (head, bs) ← getU 1 bs
  let (enable, bs) ← getFlag bs
  let (latency, bs) ← getU 4 bs
  let (silence, bs) ← getU 2 bs
  let (notify, bs) ← getSet 5 bs
  let (halt, bs) ← getSet 5 bs
  some (⟨head, enable, latency, silence, notify, halt⟩, bs)

def getSenderSet : Reader SenderSetParams := fun bs => do
  let (sender, bs) ← getU 1 bs
  let (groups, bs) ← getOpt (getSet 7) bs
  some (⟨sender, groups⟩, bs)

def getArbSet : Reader ArbSetParams := fun bs => do
  let (mode, bs) ← getEnum [.rotating, .fixed] bs
  let (limit, bs) ← getU 1 bs
  some (⟨mode, limit⟩, bs)

def getFaultClear : Reader FaultClearParams := fun bs => do
  let (head, bs) ← getU 1 bs
  let (causes, bs) ← getSet 5 bs
  some (⟨head, causes⟩, bs)

/-- The modes in the order of R120's table: OFF, HIGH, LOW, RISING, FALLING for 0-3; OFF, ON for 4-7. -/
def modesOf (source : Nat) : List SourceMode :=
  if source < 4 then [.off, .high, .low, .rising, .falling] else [.off, .on]

def getEvtEntry : Reader EvtEntry := fun bs => do
  let (source, bs) ← getU 1 bs
  let (mode, bs) ← getEnum (modesOf source) bs
  let (masked, bs) ← getFlag bs
  let (notify, bs) ← getFlag bs
  some (⟨source, mode, masked, notify⟩, bs)

def getGroup : Reader Group := getEnum [0, 1]

/-- GROUP_SET (R133); the wait limit is a duration in 2 bytes (log 12). -/
def getGroupSet : Reader GroupSetParams := fun bs => do
  let (group, bs) ← getGroup bs
  let (settings, bs) ← getOpt (getPair (getU 1) (getU 2)) bs
  some (⟨group, settings⟩, bs)

def getStreamSelect : Reader StreamSelectParams := fun bs => do
  let (selector, bs) ← getU 1 bs
  let (enable, bs) ← getFlag bs
  let (heads, bs) ← getSet 4 bs
  let (classes, bs) ← getSet 4 bs
  let (mask, bs) ← getSet 4 bs
  let (value, bs) ← getSet 4 bs
  some (⟨selector, enable, heads, classes, mask, value⟩, bs)

def getInterval : Reader Interval := fun bs => do
  let (lower, bs) ← getS 4 bs
  let (base, bs) ← getS 6 bs
  let (factor, bs) ← getS 4 bs
  some (⟨lower, base, factor⟩, bs)

/-- Part kinds in the order TABLE, TILT, TEMPERATURE (R22). -/
def getCalPart : Reader CalPart := fun bs => do
  let (kind, bs) ← getU 1 bs
  match kind with
  | 0 =>
    let (first, bs) ← getU 1 bs
    let (intervals, bs) ← getList getInterval bs
    let (newLength, bs) ← getOpt (getU 1) bs
    let (upper, bs) ← getOpt (getS 4) bs
    some (.table ⟨first, intervals, newLength, upper⟩, bs)
  | 1 =>
    let (offsetX, bs) ← getS 4 bs
    let (sensX, bs) ← getS 4 bs
    let (offsetY, bs) ← getS 4 bs
    let (sensY, bs) ← getS 4 bs
    let (gain, bs) ← getS 4 bs
    some (.tilt ⟨offsetX, sensX, offsetY, sensY, gain⟩, bs)
  | 2 =>
    let (offset, bs) ← getS 4 bs
    let (scale, bs) ← getS 4 bs
    let (reference, bs) ← getS 4 bs
    let (alpha, bs) ← getS 4 bs
    let (tau, bs) ← getU 2 bs
    some (.temperature ⟨offset, scale, reference, alpha, tau⟩, bs)
  | _ => none

def getCalStage : Reader CalStageParams := fun bs => do
  let (head, bs) ← getU 1 bs
  let (part, bs) ← getCalPart bs
  some (⟨head, part⟩, bs)

/-- Choices in the order COMMITTED, STAGED (R28). -/
def getCalRead : Reader CalReadParams := fun bs => do
  let (head, bs) ← getU 1 bs
  let (staged, bs) ← getEnum [false, true] bs
  let (kind, bs) ← getU 1 bs
  match kind with
  | 0 =>
    let (first, bs) ← getU 1 bs
    some (⟨head, staged, .table first⟩, bs)
  | 1 => some (⟨head, staged, .tilt⟩, bs)
  | 2 => some (⟨head, staged, .temperature⟩, bs)
  | _ => none

def getPageOpen : Reader PageOpenParams := fun bs => do
  let (number, bs) ← getU 1 bs
  let (start, bs) ← getU 6 bs
  let (length, bs) ← getU 4 bs
  some (⟨number, start, length⟩, bs)

def getConstituent : Reader Constituent := fun bs => do
  let (code, bs) ← getU 1 bs
  let (species, bs) ← getU 1 bs
  let (amplitude, bs) ← getU 4 bs
  let (argument, bs) ← getS 4 bs
  let (speed, bs) ← getS 4 bs
  some (⟨code, species, amplitude, argument, speed⟩, bs)

def getPageAdd : Reader PageAddParams := fun bs => do
  let (number, bs) ← getU 1 bs
  let (terms, bs) ← getList getConstituent bs
  some (⟨number, terms⟩, bs)

def getTideQuery : Reader TideQueryParams := fun bs => do
  let (station, bs) ← getU 3 bs
  let (time, bs) ← getOpt (getU 6) bs
  some (⟨station, time⟩, bs)

def getPosition : Reader Position := fun bs => do
  let (lat, bs) ← getS 4 bs
  let (lon, bs) ← getS 4 bs
  let (height, bs) ← getS 4 bs
  some (⟨lat, lon, height⟩, bs)

def getAdjEntry : Reader AdjEntry := fun bs => do
  let (code, bs) ← getU 1 bs
  let (factor, bs) ← getS 4 bs
  let (lag, bs) ← getS 4 bs
  some (⟨code, factor, lag⟩, bs)

def getStnPut : Reader StnPutParams := fun bs => do
  let (station, bs) ← getU 3 bs
  let (pos, bs) ← getPosition bs
  let (delta, bs) ← getS 4 bs
  let (adjust, bs) ← getList getAdjEntry bs
  some (⟨station, pos, delta, adjust⟩, bs)

def getStnList : Reader StnListParams := fun bs => do
  let (bucket, bs) ← getU 1 bs
  let (position, bs) ← getU 1 bs
  some (⟨bucket, position⟩, bs)

/-- Entry states and resume modes in the order SETTLING, HELD (R75, R80). -/
def getEntryMode : Reader EntryMode := getEnum [.settling, .held]

/-- The items of a policy that an OCC_OPEN carries (R80); the deviation gate as a limit, in 4 bytes, and the
running-time limit as a duration, in 2 (log 12). -/
def getPolicyItems : Reader PolicyItems := fun bs => do
  let (target, bs) ← getOpt (getU 2) bs
  let (minimum, bs) ← getOpt (getU 2) bs
  let (settle, bs) ← getOpt (getU 2) bs
  let (runLimit, bs) ← getOpt (getU 2) bs
  let (tiltLimit, bs) ← getOpt (getS 4) bs
  let (rateLimit, bs) ← getOpt (getS 4) bs
  let (gate, bs) ← getOpt (getS 4) bs
  let (tideRequired, bs) ← getOpt getFlag bs
  let (resume, bs) ← getOpt getEntryMode bs
  let (resettle, bs) ← getOpt getFlag bs
  some (⟨target, minimum, settle, runLimit, tiltLimit, rateLimit, gate, tideRequired, resume, resettle⟩, bs)

/-- The items of a policy that an OCC_DEFAULTS carries (R75), in the widths of those of an OCC_OPEN (log 12). -/
def getPolicy : Reader Policy := fun bs => do
  let (target, bs) ← getU 2 bs
  let (minimum, bs) ← getU 2 bs
  let (settle, bs) ← getU 2 bs
  let (runLimit, bs) ← getU 2 bs
  let (tiltLimit, bs) ← getS 4 bs
  let (rateLimit, bs) ← getS 4 bs
  let (gate, bs) ← getS 4 bs
  let (tideRequired, bs) ← getFlag bs
  let (resume, bs) ← getEntryMode bs
  let (resettle, bs) ← getFlag bs
  some (⟨target, minimum, settle, runLimit, tiltLimit, rateLimit, gate, tideRequired, resume, resettle⟩, bs)

def getOccOpen : Reader OccOpenParams := fun bs => do
  let (tag, bs) ← getU 2 bs
  let (head, bs) ← getU 1 bs
  let (station, bs) ← getU 3 bs
  let (entry, bs) ← getEntryMode bs
  let (items, bs) ← getPolicyItems bs
  let (group, bs) ← getOpt getGroup bs
  let (wake, bs) ← getSet 8 bs
  let (hold, bs) ← getSet 8 bs
  let (inline, bs) ← getOpt (getPair getPosition (getOpt (getS 4))) bs
  some (⟨tag, head, station, entry, items, group, wake, hold, inline⟩, bs)

def getOccSwap : Reader OccSwapParams := fun bs => do
  let (active, bs) ← getU 2 bs
  let (parked, bs) ← getU 2 bs
  some (⟨active, parked⟩, bs)

def getOccClone : Reader OccCloneParams := fun bs => do
  let (source, bs) ← getU 2 bs
  let (tag, bs) ← getU 2 bs
  let (head, bs) ← getU 1 bs
  some (⟨source, tag, head⟩, bs)

def getDumpStart : Reader DumpStartParams := fun bs => do
  let (head, bs) ← getU 1 bs
  let (first, bs) ← getU 4 bs
  let (count, bs) ← getU 2 bs
  let (block, bs) ← getU 1 bs
  let (quiet, bs) ← getFlag bs
  some (⟨head, first, count, block, quiet⟩, bs)

/-- The command row that a frame of a known kind spells (section 10.6). -/
def decodeKind (k : Kind) (h : Header) (bs : List Byte) : Instr :=
  match k with
  | .status => .status h (wholeBody getFlag bs)
  | .senderSet => .senderSet h (wholeBody getSenderSet bs)
  | .save => .save h (wholeBody getNothing bs)
  | .restart => .restart h (wholeBody getNothing bs)
  | .headSetup => .headSetup h (wholeBody getHeadSetup bs)
  | .setPlan => .setPlan h (wholeBody (getU 1) bs)
  | .arbSet => .arbSet h (wholeBody getArbSet bs)
  | .faultClear => .faultClear h (wholeBody getFaultClear bs)
  | .evtSetup => .evtSetup h (wholeBody (getList getEvtEntry) bs)
  | .evtClear => .evtClear h (wholeBody (getSet 8) bs)
  | .groupSet => .groupSet h (wholeBody getGroupSet bs)
  | .queueMarks => .queueMarks h (wholeBody (getOpt (getPair (getU 1) (getU 1))) bs)
  | .streamSelect => .streamSelect h (wholeBody getStreamSelect bs)
  | .streamBatch => .streamBatch h (wholeBody (getOpt (getPair (getU 1) (getU 4))) bs)
  | .calStage => .calStage h (wholeBody getCalStage bs)
  | .calCommit => .calCommit h (wholeBody (getU 1) bs)
  | .calDiscard => .calDiscard h (wholeBody (getU 1) bs)
  | .calRead => .calRead h (wholeBody getCalRead bs)
  | .setTime => .setTime h (wholeBody (getU 6) bs)
  | .pageOpen => .pageOpen h (wholeBody getPageOpen bs)
  | .pageAdd => .pageAdd h (wholeBody getPageAdd bs)
  | .pageCommit => .pageCommit h (wholeBody (getU 1) bs)
  | .pageDrop => .pageDrop h (wholeBody (getU 1) bs)
  | .pageList => .pageList h (wholeBody (getOpt (getPair (getU 1) (getU 1))) bs)
  | .tideQuery => .tideQuery h (wholeBody getTideQuery bs)
  | .stnPut => .stnPut h (wholeBody getStnPut bs)
  | .stnDelete => .stnDelete h (wholeBody (getU 3) bs)
  | .stnAge => .stnAge h (wholeBody getNothing bs)
  | .stnGet => .stnGet h (wholeBody (getU 3) bs)
  | .stnList => .stnList h (wholeBody getStnList bs)
  | .occOpen => .occOpen h (wholeBody getOccOpen bs)
  | .occHold => .occHold h (wholeBody (getU 2) bs)
  | .occRelease => .occRelease h (wholeBody (getU 2) bs)
  | .occClose => .occClose h (wholeBody (getU 2) bs)
  | .occAbort => .occAbort h (wholeBody (getU 2) bs)
  | .occDefaults => .occDefaults h (wholeBody getPolicy bs)
  | .occQuery => .occQuery h (wholeBody (getOpt (getU 2)) bs)
  | .occPark => .occPark h (wholeBody (getU 2) bs)
  | .occUnpark => .occUnpark h (wholeBody (getU 2) bs)
  | .occSwap => .occSwap h (wholeBody getOccSwap bs)
  | .occClone => .occClone h (wholeBody getOccClone bs)
  | .dumpStart => .dumpStart h (wholeBody getDumpStart bs)
  | .dumpStop => .dumpStop h (wholeBody getNothing bs)

/-- The command row that a valid frame spells (R168, R171). -/
def decodeFrame (kind : Byte) (h : Header) (body : List Byte) : Instr :=
  match Kind.ofCode kind.toNat with
  | some k => decodeKind k h body
  | none => .unknownKindCommand h kind

/-! ## The head frame (section 10.7) -/

/-- The fields of a head frame (section 1.1): the status flags are bits 0 to 3 of the status byte. -/
structure HeadFrame where
  counter : Byte
  tick : Nat
  raw : Int
  tiltX : Int
  tiltY : Int
  temp : Int
  sensorFault : Bool
  ovenUnstable : Bool
  backlog : Bool
  restarted : Bool
  deriving DecidableEq, Repr

/-- Bytes of a head frame (section 10.7). -/
def headFrameLength : Nat := 21

/-- The check word of a head frame is the CRC-16 over bytes 1 to 18 (section 10.7). -/
def headFrameValid (bs : List Byte) : Bool :=
  bs.length == headFrameLength && bs.drop 19 == crcBytes (crc16 ((bs.drop 1).take 18))

/-- The fields of a valid head frame's bytes (section 10.7). -/
def decodeHeadFrame (bs : List Byte) : HeadFrame :=
  let at1 (k : Nat) : Byte := bs.getD k 0#8
  { counter := at1 1
    tick := leNat ((bs.drop 2).take 4)
    raw := leInt ((bs.drop 6).take 3)
    tiltX := leInt ((bs.drop 9).take 3)
    tiltY := leInt ((bs.drop 12).take 3)
    temp := leInt ((bs.drop 15).take 3)
    sensorFault := (at1 18).getLsbD 0
    ovenUnstable := (at1 18).getLsbD 1
    backlog := (at1 18).getLsbD 2
    restarted := (at1 18).getLsbD 3 }

/-! ## The survey frame (section 10.7) -/

/-- Bytes of the frame that begins at the front of the buffer, once its length byte is there (R168). -/
def surveyFrameLength (bs : List Byte) : Option Nat := (bs[1]?).map fun l => 7 + l.toNat

/-- The step a whole survey frame spells, none when R168 drops it: length above 240, sender above 3, CRC wrong, all tested when the
frame is whole (log 27). -/
def decodeSurveyFrame (bs : List Byte) : Option Instr :=
  let len := (bs.getD 1 0#8).toNat
  let sender := (bs.getD 3 0#8).toNat
  if h : sender < 4 then
    if len ≤ 240 ∧ bs.drop (5 + len) = crcBytes (crc16 ((bs.drop 1).take (4 + len))) then
      some (decodeFrame (bs.getD 2 0#8) { sender := ⟨sender, h⟩, seq := bs.getD 4 0#8 } ((bs.drop 5).take len))
    else none
  else none

/-- The command that a table word spells: the table gives no row any bits (log 20). -/
def decodeTableWord (_nbits _w : Nat) : Option Instr := none

end Sys2Proof
end

