-- ==== Sys2Proof/Machine/Factory.lean ====
section
/-! DEFINITION. The allocation plans (section 1.6) and the factory values (R21, R75, R180). -/

namespace Sys2Proof.Config

/-- Intake slots of head n under plan p (section 1.6). -/
def share (p : Fin 4) (n : Head) : Nat :=
  match p, n with
  | 0, _ => 16
  | 1, 0 => 32
  | 1, 1 => 16
  | 1, 2 => 8
  | 1, 3 => 8
  | 2, 0 => 32
  | 2, 1 => 32
  | 2, 2 => 0
  | 2, 3 => 0
  | 3, 0 => 64
  | 3, 1 => 0
  | 3, 2 => 0
  | 3, 3 => 0

/-- Archive records of head n under plan p: 128 per intake slot (section 1.6, R157). -/
def capacity (p : Fin 4) (n : Head) : Nat := 128 * share p n

/-- The factory calibration record (R21). -/
def factoryRecord : CalRecord where
  intervals := [{ lower := -8388607, base := -83886070, factor := 10000 }]
  upper := 8388607
  tilt := { offsetX := 0, sensX := 1000, offsetY := 0, sensY := 1000, gain := 115 }
  temp := { offset := 0, scale := 1000, reference := 50000, alpha := 0, tau := 0 }

/-- The factory default policy (R75). -/
def factoryPolicy : Policy where
  target := 60
  minimum := 10
  settle := 60
  runLimit := 0
  tiltLimit := 600
  rateLimit := 100
  gate := 0
  tideRequired := true
  resume := .settling
  resettle := true

/-- The factory defaults (R180). -/
def factory : Settings where
  heads := Vector.replicate 4 { enable := true, latency := 0, silence := 5, notify := 0x1F#5, halt := 0#5 }
  plan := 0
  arbMode := .rotating
  arbLimit := 8
  cal := Vector.replicate 4 { record := factoryRecord, version := 1 }
  sources :=
    let external : SourceSettings := { mode := .off, masked := false, notify := true }
    let internal : SourceSettings := { mode := .on, masked := false, notify := false }
    #v[external, external, external, external, internal, internal, internal, internal]
  groups := Vector.replicate 2 { target := 2, waitLimit := 60 }
  high := 36
  low := 18
  selectors := Vector.replicate 4 { enable := false, heads := 0#4, classes := 0#4, mask := 0#4, value := 0#4 }
  threshold := 8
  flush := 1000
  senders := Vector.replicate 3 0#7
  policy := factoryPolicy

end Sys2Proof.Config
end

