-- ==== Sys2Proof/Machine/State.lean ====
section
/-! DEFINITION. The state of the part, block by block (scope, section 3), the messages of its outbound queue, and the state
right after a cold start has begun. Plain data throughout. Survey times are milliseconds; expiries and anchors are integers,
since a step of the clock may carry them below 0 (R41). -/

namespace Sys2Proof.Machine

/-! ## Head ports and samples (chapter 1) -/

/-- Head states (section 1.2): the silence timer runs in LIVE alone, with its expiry. -/
inductive HeadState where
  | off
  | awaiting
  | live (expiry : Int)
  | silent
  deriving DecidableEq, Repr

/-- A head offset: a head tick and the survey time it corresponds to (section 1.4). -/
structure Anchor where
  tick : Nat
  time : Int
  deriving DecidableEq, Repr

/-- A receiver that hunts for a frame's first byte (R1, R168): the bytes not yet used, how many of them at the front belong to
a frame that already failed (log 13), and whether a run of discarded bytes is open. -/
structure Receiver where
  buf : List Byte
  rescan : Nat
  junk : Bool
  deriving DecidableEq, Repr

/-- A head port (scope, section 3). -/
structure HeadPort where
  state : HeadState
  expected : Option Byte
  anchor : Option Anchor
  restartMark : Bool
  firstMark : Bool
  status : BitVec 5
  linkErrors : Nat
  overruns : Nat
  gaps : Nat
  rx : Receiver
  deriving DecidableEq, Repr

/-- A decoded sample (section 1.5): GAP is present with its missed-frame count. -/
structure Sample where
  head : Head
  counter : Byte
  tick : Nat
  time : Nat
  raw : Int
  tiltX : Int
  tiltY : Int
  temp : Int
  gap : Option Nat
  backlog : Bool
  restart : Bool
  headStatus : Bool
  timeUnset : Bool
  firstOfRun : Bool
  deriving DecidableEq, Repr

/-! ## Dispositions and records (chapters 2 and 5) -/

/-- Causes of REJECTED, in gate order (R84). -/
inductive RejectCause where
  | headStatus | calRange | tilt | tempRate | tide | deviation
  deriving DecidableEq, Repr

/-- Reasons of DISCARDED (section 2.5). -/
inductive DiscardReason where
  | settling | held | waiting | complete | stale
  deriving DecidableEq, Repr

/-- The disposition of a corrected sample (section 2.5). -/
inductive Disposition where
  | accepted
  | rejected (c : RejectCause)
  | discarded (r : DiscardReason)
  | unbound
  deriving DecidableEq, Repr

/-- A corrected sample record (section 2.5). TIDE_ABSENT is the absence of `tide`, CAL_RANGE that of `calibrated`. -/
structure SampleRecord where
  head : Head
  seq : Nat
  time : Nat
  raw : Int
  tiltX : Int
  tiltY : Int
  temp : Int
  lagged : Int
  calibrated : Option Int
  tiltCorr : Int
  tempCorr : Int
  tide : Option Int
  corrected : Option Int
  version : Nat
  gap : Option Nat
  backlog : Bool
  restart : Bool
  headStatus : Bool
  timeUnset : Bool
  disposition : Disposition
  tag : Option Nat
  deriving DecidableEq, Repr

/-- The lag state of a head, when set (section 2.4). -/
structure LagState where
  lagged : Int
  temp : Int
  time : Nat
  deriving DecidableEq, Repr

/-! ## Stations and tide pages (chapters 3 and 4) -/

/-- Origin of a station record (R58). -/
inductive Origin where
  | stored | learned
  deriving DecidableEq, Repr

/-- A station record (R58); an empty list is the absence of an adjustment list. -/
structure StationRecord where
  number : Nat
  origin : Origin
  pos : Position
  delta : Int
  adjust : List AdjEntry
  refs : Nat
  current : Bool
  previous : Bool
  deriving DecidableEq, Repr

/-- A bucket: its primary place and its chain of overflow records, in chain order (R59). -/
structure Bucket where
  primary : Option StationRecord
  chain : List StationRecord
  deriving DecidableEq, Repr

/-- The station table: 64 buckets and the length of the free list (section 4.2). -/
structure StationTable where
  buckets : Vector Bucket 64
  free : Nat
  deriving DecidableEq, Repr

/-- A tide page (section 3.4). -/
structure Page where
  number : Nat
  start : Nat
  length : Nat
  terms : List Constituent
  deriving DecidableEq, Repr

/-- A slot of the tide page set (section 3.4). -/
inductive PageSlot where
  | empty
  | filling (p : Page)
  | ready (p : Page)
  deriving DecidableEq, Repr

/-- Tide states (section 3.5). -/
inductive TideState where
  | available | lapsed | noTime
  deriving DecidableEq, Repr

/-- The tide page set. -/
structure PageSet where
  slots : Vector PageSlot 3
  tide : TideState
  deriving DecidableEq, Repr

/-- Clock states; the loss timer runs in LOCKED alone, with its expiry (section 3.1). -/
inductive ClockState where
  | unset
  | set
  | locked (loss : Int)
  deriving DecidableEq, Repr

/-- The survey clock. -/
structure Clock where
  time : Nat
  state : ClockState
  deriving DecidableEq, Repr

/-! ## The correction in flight (chapter 2) -/

/-- The context a correction copied (R29, R37): none, a live one by its tag, or one that has been freed since. Tags of live
contexts are unique (R80), so a tag that has stayed live names the same context. -/
inductive Binding where
  | none
  | live (tag : Nat)
  | freed
  deriving DecidableEq, Repr

/-- The correction in flight with its copied inputs (R29). -/
structure Correction where
  sample : Sample
  record : CalRecord
  version : Nat
  lag : Option LagState
  bound : Binding
  station : Option StationRecord
  page : Option Page
  deriving DecidableEq, Repr

/-- The correction unit: the arbiter state and the correction in flight (section 1.7). -/
structure CorrectionUnit where
  last : Option Head
  service : Nat
  inFlight : Option Correction
  deriving DecidableEq, Repr

/-- The volatile part of the calibration set (section 2.1, 2.4). -/
structure CalSet where
  staged : Vector (Option CalRecord) 4
  lag : Vector (Option LagState) 4
  deriving DecidableEq, Repr

/-! ## Occupation contexts (chapters 5 and 6) -/

/-- Hold reasons (R74). -/
inductive HoldReason where
  | command | event | fault | stale
  deriving DecidableEq, Repr

/-- Completion reasons (R74). -/
inductive CompletionReason where
  | target | timeLimit | command
  deriving DecidableEq, Repr

/-- Context states with what each alone holds: the settle expiry; the survey time of the entry to RUNNING (moved by every
clock step, so that the stretch leaves steps out, R41, R78) and the limit expiry; the reasons (R74). -/
inductive OccState where
  | settling (expiry : Int)
  | waiting
  | running (since : Int) (limit : Option Int)
  | held (r : HoldReason)
  | complete (r : CompletionReason)
  | parked
  deriving DecidableEq, Repr

/-- Rejected counts, one per cause (R76). -/
structure RejectCounts where
  headStatus : Nat
  calRange : Nat
  tilt : Nat
  tempRate : Nat
  tide : Nat
  deviation : Nat
  deriving DecidableEq, Repr

/-- Discarded counts, one per counted reason (R76). -/
structure DiscardCounts where
  settling : Nat
  held : Nat
  waiting : Nat
  deriving DecidableEq, Repr

/-- The accumulators of a context (R76). Joint run number and start time are set together. -/
structure Accumulators where
  accepted : Nat
  gravity : Int
  squares : Int
  tilt : Int
  temp : Int
  tide : Int
  tideAbsent : Nat
  rejected : RejectCounts
  discarded : DiscardCounts
  gaps : Nat
  first : Option Nat
  last : Option Nat
  least : Option Int
  greatest : Option Int
  duration : Nat
  segments : Nat
  joint : Option (Nat × Nat)
  completion : Option Nat
  deriving DecidableEq, Repr

/-- The flags of a context (R77). -/
structure OccFlags where
  unjoined : Bool
  stale : Bool
  faultHeld : Bool
  tidePartial : Bool
  deriving DecidableEq, Repr

/-- An occupation context (R74). -/
structure Context where
  tag : Nat
  head : Head
  station : Nat
  state : OccState
  policy : Policy
  group : Option Group
  wake : BitVec 8
  hold : BitVec 8
  version : Nat
  acc : Accumulators
  flags : OccFlags
  deriving DecidableEq, Repr

/-- The occupation controller and the context store: the active slots, the store slots, and the heads of COMPLETE contexts
whose readings wait, in order of entry to COMPLETE (R74, R98, R105). -/
structure Occupations where
  active : Vector (Option Context) 4
  store : Vector (Option Context) 12
  waiting : List Head
  deriving DecidableEq, Repr

/-- A joint group: GATHERING exactly while its timer runs (R132). -/
structure JointGroup where
  arrivals : List Nat
  timer : Option Int
  run : Nat
  deriving DecidableEq, Repr

/-- The event unit (R120): sets of sources and of external lines are bits. -/
structure EventUnit where
  pending : BitVec 8
  rearm : BitVec 4
  level : BitVec 4
  latch : Option Source
  deriving DecidableEq, Repr

/-! ## Streams, archive, settings store (chapters 8, 9, 11) -/

/-- A head's stream batch (R153). -/
structure Batch where
  records : List SampleRecord
  expiry : Option Int
  deriving DecidableEq, Repr

/-- A head's archive ring, oldest first, and its sequence counter (R157). -/
structure Ring where
  records : List SampleRecord
  counter : Nat
  deriving DecidableEq, Repr

/-- The dump in flight (section 9.2). -/
structure Dump where
  head : Head
  first : Nat
  last : Nat
  length : Nat
  cursor : Option Nat
  block : Nat
  quiet : Bool
  sent : Nat
  skipped : Nat
  deriving DecidableEq, Repr

/-- The sample archive. -/
structure Archive where
  rings : Vector Ring 4
  dump : Option Dump
  deriving DecidableEq, Repr

/-- Part states (section 11.2). -/
inductive PartState where
  | starting | ready
  deriving DecidableEq, Repr

/-- Start kinds (R150). -/
inductive StartKind where
  | cold | restart
  deriving DecidableEq, Repr

/-- Load results (section 11.2). -/
inductive LoadResult where
  | loaded | storeDefaulted
  deriving DecidableEq, Repr

/-- The settings image: its items and its check word (R180). -/
structure Image where
  items : Settings
  check : BitVec 16
  deriving DecidableEq, Repr

/-- The part's own state and the settings store (chapter 11). -/
structure PartUnit where
  part : PartState
  startKind : StartKind
  loadResult : LoadResult
  restartPending : Bool
  saving : Option Settings
  image : Image
  deriving DecidableEq, Repr

/-! ## Messages (chapters 8 and 10) -/

/-- Reply status values (R172). -/
inductive Status where
  | done | accepted | denied | unknownKind | badValue | notReady | busy | inUse | notFound | existing | full | wrongState
  | wrongHead | mismatch | locked | overlap | stale | noTide
  deriving DecidableEq, Repr

/-- A member of a joint group with its head, as notices and replies give it. -/
structure Member where
  tag : Nat
  head : Head
  deriving DecidableEq, Repr

/-- States named by notices and replies (R100, R108, R150). -/
inductive StateName where
  | settling | waiting | running | held | complete | parked
  deriving DecidableEq, Repr

/-- What put a context into HELD by EVENT or FAULT (R150). -/
inductive HoldOrigin where
  | source (s : Source)
  | cause (c : FaultCause)
  deriving DecidableEq, Repr

/-- Reason of an UNLOCKED notice (R149): MARK_OFF with the remainder, or MARK_LOST. -/
inductive UnlockCause where
  | markOff (r : Nat)
  | markLost
  deriving DecidableEq, Repr

/-- Notices with their fields (R149, R150); the notice time stands beside them in the message. -/
inductive Notice where
  | event (source : Source) (level : Option Bool) (held woken : Nat)
  | fault (head : Head) (cause : FaultCause) (status : BitVec 5)
  | pageAvailable (number start length : Nat)
  | pageLapsed
  | pageRetired (number start length : Nat) (slot : PageSlotId)
  | clockStepped (time : Nat) (step : Int)
  | clockLocked (time : Nat) (step : Int)
  | clockUnlocked (cause : UnlockCause)
  | contextHold (tag : Nat) (head : Head) (left : StateName) (origin : HoldOrigin)
  | jointRelease (group : Group) (run start : Nat) (members : List Member)
  | unjoined (group : Group) (members : List Member)
  | contextStale (tag : Nat) (head : Head) (recorded committed : Nat) (byCommit : Bool)
  | aborted (tag : Nat) (head : Head) (station : Nat) (state : StateName) (accepted : Nat)
  | dumpEnd (head : Head) (sent skipped : Nat) (done : Bool)
  | saveEnd (written : Bool)
  | start (kind : StartKind) (result : LoadResult) (clock : ClockState)
  deriving DecidableEq, Repr

/-- A reading (R147): values of R101, the status of R102, and the context's own items. -/
structure Reading where
  tag : Nat
  head : Head
  station : Nat
  good : Bool
  reason : CompletionReason
  completion : Nat
  version : Nat
  target : Nat
  minimum : Nat
  mean : Option Int
  stdErr : Option Int
  meanTilt : Option Int
  meanTemp : Option Int
  meanTide : Option Int
  acc : Accumulators
  flags : OccFlags
  deriving DecidableEq, Repr

/-- Per-head part of the STATUS reply (R175). -/
structure HeadReport where
  state : HeadState
  status : BitVec 5
  linkErrors : Nat
  overruns : Nat
  gaps : Nat
  capacity : Nat
  length : Nat
  oldest : Option Nat
  newest : Option Nat
  counter : Nat
  deriving DecidableEq, Repr

/-- The condition that pauses a dump (R187). -/
inductive PauseCondition where
  | none | congestion | quiet | noFreeEntry
  deriving DecidableEq, Repr

/-- The STATUS reply (R175). -/
structure StatusReport where
  part : PartState
  loadResult : LoadResult
  time : Nat
  clock : ClockState
  tide : TideState
  count : Nat
  congested : Bool
  storeSlots : Nat
  live : Nat
  framesDropped : Nat
  overflows : Nat
  noticesLost : Nat
  samplesDropped : Nat
  heads : Vector HeadReport 4
  dump : Option Dump
  pause : PauseCondition
  deriving DecidableEq, Repr

/-- What a CAL_READ returns of a part (R28). -/
inductive CalReadData where
  | table (length : Nat) (upper : Int) (intervals : List Interval)
  | tilt (t : TiltItems)
  | temperature (t : TempItems)
  deriving DecidableEq, Repr

/-- One slot of the PAGE_LIST reply (R50). -/
inductive SlotReport where
  | empty
  | held (ready : Bool) (number start length count : Nat)
  deriving DecidableEq, Repr

/-- One record summary of STN_LIST (R68). -/
structure StationSummary where
  number : Nat
  origin : Origin
  refs : Nat
  current : Bool
  previous : Bool
  bucket : Nat
  position : Nat
  deriving DecidableEq, Repr

/-- The STN_LIST reply (R68). -/
structure StationListing where
  records : Nat
  stored : Nat
  learned : Nat
  primaries : Nat
  free : Nat
  summaries : List StationSummary
  continuation : Option (Nat × Nat)
  deriving DecidableEq, Repr

/-- The detail that OCC_QUERY gives of one context (R103). -/
structure ContextReport where
  tag : Nat
  head : Head
  station : Nat
  state : OccState
  policy : Policy
  group : Option Group
  wake : BitVec 8
  hold : BitVec 8
  version : Nat
  flags : OccFlags
  acc : Accumulators
  mean : Option Int
  stdErr : Option Int
  meanTilt : Option Int
  meanTemp : Option Int
  meanTide : Option Int
  slot : Option StoreSlotId
  deriving DecidableEq, Repr

/-- One summary of OCC_QUERY (R103). -/
structure ContextSummary where
  tag : Nat
  head : Head
  station : Nat
  state : StateName
  accepted : Nat
  deriving DecidableEq, Repr

/-- The GROUP_SET reply (R133). -/
structure GroupReport where
  target : Nat
  waitLimit : Nat
  gathering : Bool
  run : Nat
  arrivals : List Member
  timer : Option Int
  members : Nat
  deriving DecidableEq, Repr

/-- One source of the EVT_SETUP reply (R129). -/
structure SourceReport where
  mode : SourceMode
  masked : Bool
  notify : Bool
  pending : Bool
  deriving DecidableEq, Repr

/-- Reply data, as each command's rule names it. -/
inductive ReplyData where
  | none
  | status (r : StatusReport)
  | senders (sets : List (BitVec 7))
  | calRead (version : Nat) (staged : Bool) (part : CalReadData)
  | pageOpened (slot : PageSlotId)
  | pageLength (n : Nat)
  | pageList (time : Nat) (clock : ClockState) (tide : TideState) (slots : List SlotReport) (terms : Option (List Constituent))
  | tide (correction : Int) (page time : Nat)
  | stationPut (created : Bool) (bucket position : Nat)
  | stationAge (removed remaining : Nat)
  | station (r : StationRecord) (bucket position : Nat)
  | stationList (l : StationListing)
  | opened (found : Bool) (version : Nat) (entry : EntryMode) (expiry : Option Int)
  | parked (slot : StoreSlotId) (left : StateName) (accepted duration : Nat)
  | unparked (slot : StoreSlotId) (entered : StateName) (recorded committed : Nat) (expiry : Option Int)
  | swapped (slot : StoreSlotId) (entered : StateName) (recorded committed : Nat) (expiry : Option Int)
  | cloned (tag : Nat) (head : Head) (version : Nat) (expiry : Int)
  | context (r : ContextReport)
  | contexts (l : List ContextSummary)
  | sources (l : List SourceReport) (levels : BitVec 4)
  | cleared (dropped : BitVec 8)
  | group (r : GroupReport)
  | marks (high low count : Nat) (congested : Bool)
  | selectors (l : List Selector)
  | batching (threshold flush : Nat) (lengths : List Nat)
  | dumpStarted (d : Dump)
  deriving DecidableEq, Repr

/-- The cause of a batch's offering (R153). -/
inductive BatchCause where
  | threshold | flush
  deriving DecidableEq, Repr

/-- A message of the outbound queue (R142). -/
inductive Message where
  | reply (h : Header) (kind : Nat) (st : Status) (data : ReplyData)
  | reading (r : Reading)
  | notice (time : Nat) (n : Notice)
  | batch (head : Head) (cause : BatchCause) (records : List SampleRecord)
  | dump (head : Head) (first : Nat) (records : List SampleRecord)
  deriving DecidableEq, Repr

/-- The outbound queue (chapter 8): `lineOut` is the frames of the transmission last begun, as they stand on the line. -/
structure Outbound where
  queue : List Message
  congested : Bool
  transmitting : Bool
  lineOut : List (List Byte)
  noticesLost : Nat
  samplesDropped : Nat
  deriving DecidableEq, Repr

/-- The link controller (chapter 10): waiting frames are held as the commands they spell. -/
structure LinkUnit where
  intake : List Instr
  rx : Receiver
  framesDropped : Nat
  overflows : Nat
  deriving DecidableEq, Repr

/-- The input pins that hold a level: the external event lines and link ready (scope, section 2). -/
structure Pins where
  lines : BitVec 4
  linkReady : Bool
  deriving DecidableEq, Repr

/-! ## The whole part -/

/-- The state of the part; `pending` is the queue of waiting steps, first in first out, and `choices` counts the choices that the
model has read from the free value Config.controllerFirst (log 26); both are the model's own. -/
structure State where
  pending : List Instr
  sys : PartUnit
  settings : Settings
  clock : Clock
  pages : PageSet
  ports : Vector HeadPort 4
  partitions : Vector (List Sample) 4
  corr : CorrectionUnit
  cal : CalSet
  table : StationTable
  occ : Occupations
  groups : Vector JointGroup 2
  events : EventUnit
  out : Outbound
  batches : Vector Batch 4
  archive : Archive
  link : LinkUnit
  pins : Pins
  choices : Nat
  deriving DecidableEq, Repr

/-- Reasons the machine stops with a fault: none. The spec gives every step an effect, so no meaning raises one. -/
inductive Fault where
  deriving DecidableEq, Repr

/-- Reasons a step has no meaning. -/
inductive Refusal where
  /-- The step is not modelled, by its mnemonic. Raised by no meaning: every row has one. Safe: the machine stops. -/
  | notModelled (mnemonic : String)
  deriving DecidableEq, Repr

namespace State

/-- A head port before the load completes: OFF, with nothing kept (R19). -/
def offPort : HeadPort where
  state := .off
  expected := none
  anchor := none
  restartMark := false
  firstMark := false
  status := 0#5
  linkErrors := 0
  overruns := 0
  gaps := 0
  rx := { buf := [], rescan := 0, junk := false }

/-- The part as a start-up load begins (R181, R186): every block at the values its chapter gives for the start, with the given
queue of steps, part unit, clock, tide state, pins and count of choices. The factory settings stand until the load takes an image (log 6);
the re-arm flags are clear (log 25). -/
def starting (pending : List Instr) (sys : PartUnit) (clock : Clock) (tide : TideState) (pins : Pins)
    (choices : Nat) : State where
  pending := pending
  sys := sys
  settings := Config.factory
  clock := clock
  pages := { slots := Vector.replicate 3 .empty, tide := tide }
  ports := Vector.replicate 4 offPort
  partitions := Vector.replicate 4 []
  corr := { last := none, service := 0, inFlight := none }
  cal := { staged := Vector.replicate 4 none, lag := Vector.replicate 4 none }
  table := { buckets := Vector.replicate 64 { primary := none, chain := [] }, free := Config.overflowSize }
  occ := { active := Vector.replicate 4 none, store := Vector.replicate 12 none, waiting := [] }
  groups := Vector.replicate 2 { arrivals := [], timer := none, run := 0 }
  events := { pending := 0#8, rearm := 0#4, level := pins.lines, latch := none }
  out := { queue := [], congested := false, transmitting := false, lineOut := [], noticesLost := 0, samplesDropped := 0 }
  batches := Vector.replicate 4 { records := [], expiry := none }
  archive := { rings := Vector.replicate 4 { records := [], counter := 0 }, dump := none }
  link := { intake := [], rx := { buf := [], rescan := 0, junk := false }, framesDropped := 0, overflows := 0 }
  pins := pins
  choices := choices

/-- Right after reset: a cold start has just begun, the load is in flight (R181, R39). The image of a new part and the levels
on its pins are the model's choice (log 7). -/
def reset : State :=
  starting []
    { part := .starting, startKind := .cold, loadResult := .storeDefaulted, restartPending := false, saving := none,
      image := { items := Config.factory, check := 0#16 } }
    { time := 0, state := .unset } .noTime { lines := 0#4, linkReady := false } 0

end State

end Sys2Proof.Machine
end

