-- ==== Sys2Proof/Machine/Numeric.lean ====
section
/-! DEFINITION. The arithmetic of the rules: saturating counts, rounding halfway away from zero, integer square roots, and
the exact rounding of a sum of cosines (log 9). -/

namespace Sys2Proof.Machine

/-- A count rises by n and saturates at 65,535 (R1, R76, R146). -/
def satAdd (c n : Nat) : Nat := min (c + n) Config.countMax

/-- a / b rounded to an integer, a value halfway away from zero (R29, R56, R101). -/
def roundDiv (a : Int) (b : Nat) : Int :=
  let q : Int := ((2 * a.natAbs + b) / (2 * b) : Nat)
  if a < 0 then -q else q

/-- A value held between two bounds (R30, R31). -/
def clampInt (lo hi z : Int) : Int := if z < lo then lo else if hi < z then hi else z

/-- The binary digits of a square root, from the given power of two down. -/
def isqrtFrom : Nat → Nat → Nat → Nat
  | 0, _, r => r
  | k + 1, n, r =>
    let c := r + 2 ^ k
    isqrtFrom k n (if c * c ≤ n then c else r)

/-- The integer part of the square root of n; it has half as many binary digits as n. -/
def isqrt (n : Nat) : Nat := isqrtFrom (n.log2 / 2 + 1) n 0

/-- The square root of a / b rounded to an integer, a value halfway upward: exact, since the root is not formed. -/
def roundSqrt (a b : Nat) : Nat := (isqrt (4 * a / b) + 1) / 2

/-! ## Cosines to any number of places (R56; log 9) -/

/-- Angle steps in a degree: 0.000001 deg times the milliseconds of an hour, so that every angle of R56 is a whole number of them. -/
def phaseStep : Nat := 1000000 * 3600000

/-- Angle steps in a full turn. -/
def fullTurn : Nat := 360 * phaseStep

/-- The arctangent of 1/q: the series t/k - t/(q^2 (k+2)) + ..., its first terms from the given one on. -/
def arctanSeries (q : Nat) : Nat → Nat → Nat → Int
  | 0, _, _ => 0
  | n + 1, k, t => ((t / k : Nat) : Int) - arctanSeries q n (k + 2) (t / (q * q))

/-- So many decimal places: 1 and the circle constant at that scale. -/
structure Precision where
  places : Nat
  one : Nat
  pi : Nat

/-- So many decimal places, the circle constant by Machin's formula. -/
def precision (p : Nat) : Precision where
  places := p
  one := 10 ^ p
  pi := (16 * arctanSeries 5 p 1 (10 ^ p / 5) - 4 * arctanSeries 239 p 1 (10 ^ p / 239)).toNat

/-- The alternating series x^k/k! - x^(k+2)/(k+2)! + ..., from the term given; x2 is the square of x. -/
def trigSeries (one : Nat) : Nat → Nat → Nat → Nat → Int
  | 0, _, _, _ => 0
  | n + 1, k, x2, term => (term : Int) - trigSeries one n (k + 2) x2 (term * x2 / one / ((k + 1) * (k + 2)))

/-- Cosine of so many angle steps, from 0 to a quarter turn. -/
def cosQuarter (x : Precision) (j : Nat) : Int :=
  let a := j * x.pi / (fullTurn / 2)
  trigSeries x.one x.places 0 (a * a / x.one) x.one

/-- Sine of so many angle steps, from 0 to a quarter turn. -/
def sinQuarter (x : Precision) (j : Nat) : Int :=
  let a := j * x.pi / (fullTurn / 2)
  trigSeries x.one x.places 1 (a * a / x.one) a

/-- Cosine of so many angle steps; the reduction to a quarter turn is exact. -/
def cosSteps (x : Precision) (j : Int) : Int :=
  let r := (j % (fullTurn : Int)).toNat
  let q := fullTurn / 4
  match r / q with
  | 0 => cosQuarter x (r % q)
  | 1 => -sinQuarter x (r % q)
  | 2 => -cosQuarter x (r % q)
  | _ => sinQuarter x (r % q)

/-! ## Sums of cosines with integer weights, and their exact rounding -/

/-- A sum of cosines: weights and angles in angle steps. -/
abbrev CosineSum := List (Int × Int)

/-- The sum as formed to so many places. -/
def formSum (x : Precision) (l : CosineSum) : Int := (l.map fun y => y.1 * cosSteps x y.2).sum

/-- The formed sum is less than this far from the sum, in units of the last place: 100 units for each place and unit of weight (log
9). -/
def formMargin (x : Precision) (l : CosineSum) : Nat := 100 * x.places * (l.map fun y => y.1.natAbs).sum

/-- The prime factors of a full turn's angle steps, with their multiplicity. -/
def turnPrimes : List Nat := List.replicate 16 2 ++ List.replicate 4 3 ++ List.replicate 12 5

/-- A sum of weighted powers of a root of unity of order m is 0, exactly; the primes are those of m. A prime that divides m again
splits the powers by their remainder, each part a sum over the order m / p; one that does not leaves p parts, which must be equal. -/
def rootsVanish : List Nat → Nat → List (Int × Nat) → Bool
  | [], _, l => (l.map fun y => y.1).sum == 0
  | p :: ps, m, l =>
    let n := m / p
    if l.isEmpty then true
    else if n % p = 0 then
      (List.range p).all fun r => rootsVanish ps n ((l.filter fun y => y.2 % p == r).map fun y => (y.1, y.2 / p))
    else
      let part (k : Nat) : List (Int × Nat) :=
        (l.filter fun y => (y.2 + k * n) % p == 0).map fun y => (y.1, (y.2 + k * n) / p % n)
      (List.range (p - 1)).all fun k => rootsVanish ps n (part k ++ (part (p - 1)).map fun y => (-y.1, y.2))

/-- A sum of cosines is 0, exactly: each cosine is half the sum of a root of unity and its conjugate. -/
def sumVanishes (l : CosineSum) : Bool :=
  let power (j : Int) : Nat := (j % (fullTurn : Int)).toNat
  rootsVanish turnPrimes fullTurn (l.flatMap fun y => [(y.1, power y.2), (y.1, power (-y.2))])

/-- A sum of cosines that is not 0 is above 0: formed to twice as many places each time, until it lies outside its margin. -/
def sumPositive : Nat → Nat → CosineSum → Bool
  | 0, p, l => decide (0 < formSum (precision p) l)
  | k + 1, p, l =>
    let v := formSum (precision p) l
    let e : Int := formMargin (precision p) l
    if e < v then true else if v < -e then false else sumPositive k (2 * p) l

/-- Twice the sum, less m times d. -/
def aboveHalf (d : Nat) (m : Int) (l : CosineSum) : CosineSum := (-(m * d), 0) :: l.map fun y => (2 * y.1, y.2)

/-- The roundings of the two ends of the margin about the sum over d, as formed to 40 places. -/
def roundedEnds (d : Nat) (l : CosineSum) : Int × Int :=
  let x := precision 40
  let e : Int := formMargin x l
  (roundDiv (formSum x l - e) (d * x.one), roundDiv (formSum x l + e) (d * x.one))

/-- A sum of cosines over d, rounded to an integer, a value halfway away from zero; no intermediate result is rounded (R56). Where the
margin at 40 places holds the point halfway between two integers, whether the sum is that point is decided exactly, and, if it is
not, on which side of it the sum lies; 64 doublings of the places are more than any sum of R56 can need (log 9). -/
def roundSum (d : Nat) (l : CosineSum) : Int :=
  let (lo, hi) := roundedEnds d l
  if lo = hi then lo
  else
    let h := aboveHalf d (lo + hi) l
    if sumVanishes h then (if 0 < lo + hi then hi else lo)
    else if sumPositive 64 80 h then hi
    else lo

end Sys2Proof.Machine
end

