-- ==== Sys2Proof/Machine/Flags.lean ====
section
/-! DEFINITION. Sets as bits (R178: bit n for member n) and the flag computations: fault causes, permissions, the flags and
class of a record that a stream selector tests. -/

namespace Sys2Proof.Machine

/-- Member n is in the set. -/
def inSet {w : Nat} (s : BitVec w) (n : Nat) : Bool := s.getLsbD n

/-- The set with member n. -/
def withMember {w : Nat} (s : BitVec w) (n : Nat) : BitVec w := s ||| BitVec.twoPow w n

/-- The set without member n. -/
def withoutMember {w : Nat} (s : BitVec w) (n : Nat) : BitVec w := s &&& ~~~(BitVec.twoPow w n)

/-- Position of a fault cause in the list of section 1.8. -/
def causeIndex : FaultCause → Nat
  | .linkError => 0 | .silent => 1 | .overrun => 2 | .headStatus => 3 | .calRange => 4

/-- The permission sets of all four senders: sender 0 holds all seven groups (R173). -/
def senderSets (t : Settings) : List (BitVec 7) := [0x7F#7, t.senders[0], t.senders[1], t.senders[2]]

/-- The sender may send the kind (R173): a query always, another command when its group is in the sender's set. -/
def permitted (t : Settings) (sender : Fin 4) (k : Kind) : Bool :=
  match k.group with
  | none => true
  | some g => inSet ((senderSets t).getD sender.val 0#7) g.bit

/-- Position of a disposition's class in the list of R151. -/
def classIndex : Disposition → Nat
  | .accepted => 0 | .rejected _ => 1 | .discarded _ => 2 | .unbound => 3

/-- The four flags of R151 that a record carries, GAP first. -/
def streamFlags (r : SampleRecord) : BitVec 4 :=
  let bit (b : Bool) (n : Nat) : BitVec 4 := if b then BitVec.twoPow 4 n else 0#4
  bit r.gap.isSome 0 ||| bit r.backlog 1 ||| bit r.tide.isNone 2 ||| bit r.calibrated.isNone 3

/-- The selector matches the record (R151). -/
def selectorMatches (sel : Selector) (r : SampleRecord) : Bool :=
  sel.enable && inSet sel.heads r.head.val && inSet sel.classes (classIndex r.disposition) &&
    (streamFlags r &&& sel.mask == sel.value &&& sel.mask)

/-- The record is streamed: at least one selector matches it (R151). -/
def streamed (t : Settings) (r : SampleRecord) : Bool :=
  selectorMatches t.selectors[0] r || selectorMatches t.selectors[1] r || selectorMatches t.selectors[2] r ||
    selectorMatches t.selectors[3] r

end Sys2Proof.Machine
end

