-- ==== Sys2Proof/Machine/Operands.lean ====
section
/-! DEFINITION. The ranges of operands and settings, each from the table of its own rule, and the operand forms the rules
combine: the policy of an OCC_OPEN, the tests of a calibration record, the ranges of the items of a settings image. -/

namespace Sys2Proof.Machine

/-- The value lies in a range of integers. -/
def within (lo hi z : Int) : Bool := lo ≤ z && z ≤ hi

/-- The count lies in a range. -/
def between (lo hi n : Nat) : Bool := lo ≤ n && n ≤ hi

/-- The head a byte names, if any (scope, section 6.1). -/
def headOf (n : Nat) : Option Head := if h : n < 4 then some ⟨n, h⟩ else none

/-- A station number is 1 to 16,777,215 (R58). -/
def stationOk (n : Nat) : Bool := between 1 16777215 n

/-- A tide page number is 1 to 255 (section 3.4). -/
def pageNumberOk (n : Nat) : Bool := between 1 255 n

/-- Ranges of the HEAD_SETUP settings (section 1.2). -/
def headSettingsOk (latency silence : Nat) : Bool := between 0 999 latency && between 1 60 silence

/-! ## Calibration records (R20, R26) -/

/-- A raw count, an offset or a lower count lies in its range (R20). -/
def countOk (z : Int) : Bool := within (-8388607) 8388607 z

/-- Ranges of an interval (R20). -/
def intervalOk (i : Interval) : Bool :=
  countOk i.lower && within (-99990000000) 99990000000 i.base && within (-100000000) 100000000 i.factor && i.factor != 0

/-- Ranges of the tilt items (R20). -/
def tiltItemsOk (t : TiltItems) : Bool :=
  countOk t.offsetX && countOk t.offsetY && within (-100000) 100000 t.sensX && within (-100000) 100000 t.sensY &&
    within 0 500 t.gain

/-- Ranges of the temperature items (R20). -/
def tempItemsOk (t : TempItems) : Bool :=
  countOk t.offset && within (-1000000) 1000000 t.scale && within (-40000) 85000 t.reference &&
    within (-500000) 500000 t.alpha && t.tau ≤ 3600

/-- The end value of an interval lies within 9,999,000,000.0 microgal: base value plus factor times the difference between its
end count and its lower count (R26); exact, in 0.0001 microgal. -/
def endValueOk (i : Interval) (endCount : Int) : Bool :=
  within (-99990000000000) 99990000000000 (i.base * 1000 + i.factor * (endCount - i.lower))

/-- Lower counts ascend strictly, the upper count lies above the last, and every end value is in range (R26). -/
def tableOk (upper : Int) : List Interval → Bool
  | [] => true
  | [i] => i.lower < upper && endValueOk i upper
  | i :: j :: rest => i.lower < j.lower && endValueOk i (j.lower - 1) && tableOk upper (j :: rest)

/-- A record satisfies the conditions of R26: its table, and every item within its range in R20. -/
def recordOk (r : CalRecord) : Bool :=
  between 1 32 r.intervals.length && r.intervals.all intervalOk && countOk r.upper && tiltItemsOk r.tilt &&
    tempItemsOk r.temp && tableOk r.upper r.intervals

/-! ## Policies (R75) -/

def targetOk (n : Nat) : Bool := between 10 3600 n

def settleOk (n : Nat) : Bool := n ≤ 600

def runLimitOk (n : Nat) : Bool := n == 0 || between 60 14400 n

def tiltLimitOk (z : Int) : Bool := within 10 6000 z

def rateLimitOk (z : Int) : Bool := within 1 1000 z

def gateOk (z : Int) : Bool := z == 0 || within 10 50000 z

/-- Ranges of a whole policy, the minimum count between 3 and the target count (R75). -/
def policyOk (p : Policy) : Bool :=
  targetOk p.target && between 3 p.target p.minimum && settleOk p.settle && runLimitOk p.runLimit &&
    tiltLimitOk p.tiltLimit && rateLimitOk p.rateLimit && gateOk p.gate

/-- The policy of a new context: the items carried, and the defaults for the others (R75). -/
def combine (d : Policy) (i : PolicyItems) : Policy where
  target := i.target.getD d.target
  minimum := i.minimum.getD d.minimum
  settle := i.settle.getD d.settle
  runLimit := i.runLimit.getD d.runLimit
  tiltLimit := i.tiltLimit.getD d.tiltLimit
  rateLimit := i.rateLimit.getD d.rateLimit
  gate := i.gate.getD d.gate
  tideRequired := i.tideRequired.getD d.tideRequired
  resume := i.resume.getD d.resume
  resettle := i.resettle.getD d.resettle

/-! ## Stations and tide pages (R58, R45) -/

def positionOk (p : Position) : Bool :=
  within (-90000000) 90000000 p.lat && within (-180000000) 180000000 p.lon && within (-5000) 90000 p.height

def deltaOk (z : Int) : Bool := within 1000 1300 z

def adjEntryOk (e : AdjEntry) : Bool :=
  between 1 255 e.code && within 500 1500 e.factor && within (-300000) 300000 e.lag

/-- No two numbers of the list are equal. -/
def distinct : List Nat → Bool
  | [] => true
  | a :: l => !l.contains a && distinct l

/-- An adjustment list of at most 8 entries, each in range, no two with one code (R58, R64). -/
def adjustOk (l : List AdjEntry) : Bool :=
  l.length ≤ 8 && l.all adjEntryOk && distinct (l.map fun e => e.code)

def constituentOk (c : Constituent) : Bool :=
  between 1 255 c.code && c.species ≤ 3 && c.amplitude ≤ 200000 && within 0 3599999 c.argument && within 0 600000 c.speed

/-! ## Settings and images (R180) -/

def marksOk (high low : Nat) : Bool := between 8 46 high && between 4 (high - 4) low

def batchingOk (threshold flush : Nat) : Bool := between 1 16 threshold && between 100 10000 flush

def groupSettingsOk (target wait : Nat) : Bool := between 2 4 target && between 1 600 wait

/-- The mode is one of the source's own (R120). -/
def modeOk (source : Nat) (m : SourceMode) : Bool :=
  match m with
  | .off => true
  | .on => 4 ≤ source
  | .high | .low | .rising | .falling => source < 4

/-- Every item of the settings lies within the range its owning rule gives (R180). -/
def settingsOk (t : Settings) : Bool :=
  t.heads.toList.all (fun h => headSettingsOk h.latency h.silence) && between 1 15 t.arbLimit &&
    t.cal.toList.all (fun c => recordOk c.record && between 1 65535 c.version) &&
    (t.sources.toList.zipIdx.all fun x => modeOk x.2 x.1.mode) &&
    t.groups.toList.all (fun g => groupSettingsOk g.target g.waitLimit) && marksOk t.high t.low &&
    t.selectors.toList.all (fun s => s.value &&& ~~~s.mask == 0#4) && batchingOk t.threshold t.flush && policyOk t.policy

end Sys2Proof.Machine
end

