-- ==== Sys2Proof/Machine/Encode.lean ====
section
/-! DEFINITION. The bytes of outbound messages (R177, R178 and the layouts of section 10.7): sample record, reading, STATUS,
replies, notices, and the frames a message is sent in; and the bytes and check word of a settings image (R180). Fields whose form R178 does not settle: log 12. -/

namespace Sys2Proof.Machine

/-! ## Fields -/

/-- n bytes of a number, least significant first. -/
def bytesOf : Nat → Nat → List Byte
  | 0, _ => []
  | n + 1, v => BitVec.ofNat 8 v :: bytesOf n (v / 256)

/-- An unsigned field; a value it cannot hold gives free bytes (log 11). -/
def putU (n v : Nat) : List Byte := if fitsU n v then bytesOf n v else bytesOf n (Config.unheldField n v)

/-- A signed field; a value it cannot hold gives free bytes (log 11). -/
def putS (n : Nat) (z : Int) : List Byte :=
  if fitsS n z then bytesOf n (z % (256 ^ n : Nat)).toNat else bytesOf n (Config.unheldField n z)

/-- A survey time kept as an integer. -/
def putTime (z : Int) : List Byte := if 0 ≤ z then putU 6 z.toNat else bytesOf 6 (Config.unheldField 6 z)

def putFlag (b : Bool) : List Byte := [if b then 1#8 else 0#8]

def putSet {w : Nat} (s : BitVec w) : List Byte := putU 1 s.toNat

def putOpt {α : Type} (f : α → List Byte) : Option α → List Byte
  | none => [0#8]
  | some a => 1#8 :: f a

def putList {α : Type} (f : α → List Byte) (l : List α) : List Byte := putU 1 l.length ++ l.flatMap f

/-- An optional value in a fixed layout: an absent field is sent as 0 (section 10.7). -/
def putOrZero {α : Type} (n : Nat) (f : α → List Byte) : Option α → List Byte
  | none => bytesOf n 0
  | some a => f a

/-- A byte of flags, bit 0 first. -/
def flagByte (l : List Bool) : List Byte := [BitVec.ofNat 8 (l.foldr (fun b n => (if b then 1 else 0) + 2 * n) 0)]

/-! ## Enumerations: the position in the rule's list (R178) -/

def sourceModeCode (m : SourceMode) : Nat :=
  match m with
  | .off => 0 | .high => 1 | .low => 2 | .rising => 3 | .falling => 4 | .on => 1

def rejectCode : RejectCause → Nat
  | .headStatus => 0 | .calRange => 1 | .tilt => 2 | .tempRate => 3 | .tide => 4 | .deviation => 5

def discardCode : DiscardReason → Nat
  | .settling => 0 | .held => 1 | .waiting => 2 | .complete => 3 | .stale => 4

def stateCode : StateName → Nat
  | .settling => 0 | .waiting => 1 | .running => 2 | .held => 3 | .complete => 4 | .parked => 5

/-- The name of a context state (R74). -/
def stateName : OccState → StateName
  | .settling _ => .settling | .waiting => .waiting | .running _ _ => .running | .held _ => .held
  | .complete _ => .complete | .parked => .parked

def holdCode : HoldReason → Nat
  | .command => 0 | .event => 1 | .fault => 2 | .stale => 3

def completionCode : CompletionReason → Nat
  | .target => 0 | .timeLimit => 1 | .command => 2

def clockCode : ClockState → Nat
  | .unset => 0 | .set => 1 | .locked _ => 2

def tideCode : TideState → Nat
  | .available => 0 | .lapsed => 1 | .noTime => 2

def partCode : PartState → Nat
  | .starting => 0 | .ready => 1

def loadCode : LoadResult → Nat
  | .loaded => 0 | .storeDefaulted => 1

def headStateCode : HeadState → Nat
  | .off => 0 | .awaiting => 1 | .live _ => 2 | .silent => 3

def statusCode : Status → Nat
  | .done => 0 | .accepted => 1 | .denied => 2 | .unknownKind => 3 | .badValue => 4 | .notReady => 5 | .busy => 6
  | .inUse => 7 | .notFound => 8 | .existing => 9 | .full => 10 | .wrongState => 11 | .wrongHead => 12 | .mismatch => 13
  | .locked => 14 | .overlap => 15 | .stale => 16 | .noTide => 17

def pauseCode : PauseCondition → Nat
  | .none => 0 | .congestion => 1 | .quiet => 2 | .noFreeEntry => 3

def entryCode : EntryMode → Nat
  | .settling => 0 | .held => 1

def originCode : Origin → Nat
  | .stored => 0 | .learned => 1

/-! ## Bodies of a fixed layout (section 10.7) -/

/-- Class and cause or reason of a disposition. -/
def dispositionBytes (d : Disposition) : List Byte :=
  putU 1 (classIndex d) ++ putU 1 (match d with
    | .rejected c => rejectCode c
    | .discarded r => discardCode r
    | .accepted => 0
    | .unbound => 0)

/-- The sample record body, 59 bytes. -/
def sampleBytes (r : SampleRecord) : List Byte :=
  putU 1 r.head.val ++ dispositionBytes r.disposition ++
    flagByte [r.gap.isSome, r.backlog, r.restart, r.tide.isNone, r.calibrated.isNone, r.headStatus, r.timeUnset] ++
    putU 1 (r.gap.getD 0) ++ putU 2 (r.tag.getD 0) ++ putU 2 r.version ++ putU 4 r.seq ++ putU 6 r.time ++ putS 4 r.raw ++
    putS 2 r.tiltX ++ putS 2 r.tiltY ++ putS 4 r.temp ++ putS 4 r.lagged ++ putOrZero 6 (putS 6) r.calibrated ++
    putS 4 r.tiltCorr ++ putS 4 r.tempCorr ++ putOrZero 4 (putS 4) r.tide ++ putOrZero 6 (putS 6) r.corrected

def occFlagBits (f : OccFlags) : List Bool := [f.unjoined, f.stale, f.faultHeld, f.tidePartial]

def rejectedBytes (c : RejectCounts) : List Byte :=
  putU 2 c.headStatus ++ putU 2 c.calRange ++ putU 2 c.tilt ++ putU 2 c.tempRate ++ putU 2 c.tide ++ putU 2 c.deviation

def discardedBytes (c : DiscardCounts) : List Byte := putU 2 c.settling ++ putU 2 c.held ++ putU 2 c.waiting

/-- The reading body, 108 bytes. -/
def readingBytes (r : Reading) : List Byte :=
  putU 2 r.tag ++ putU 1 r.head.val ++ putU 3 r.station ++ putU 1 (if r.good then 0 else 1) ++
    putU 1 (completionCode r.reason) ++ flagByte (occFlagBits r.flags) ++
    flagByte [0 < r.acc.accepted, r.stdErr.isSome, r.meanTide.isSome, r.acc.joint.isSome] ++ putU 6 r.completion ++
    putU 2 r.version ++ putU 2 r.target ++ putU 2 r.minimum ++ putU 2 r.acc.accepted ++ putU 2 r.acc.tideAbsent ++
    rejectedBytes r.acc.rejected ++ discardedBytes r.acc.discarded ++ putU 2 r.acc.gaps ++ putU 2 r.acc.segments ++
    putU 6 r.acc.duration ++ putOrZero 6 (putS 6) r.mean ++ putOrZero 4 (putS 4) r.stdErr ++
    putOrZero 4 (putS 4) r.meanTilt ++ putOrZero 4 (putS 4) r.meanTemp ++ putOrZero 4 (putS 4) r.meanTide ++
    putOrZero 6 (putS 6) r.acc.least ++ putOrZero 6 (putS 6) r.acc.greatest ++ putOrZero 6 (putU 6) r.acc.first ++
    putOrZero 6 (putU 6) r.acc.last ++ putOrZero 8 (fun j => putU 2 j.1 ++ putU 6 j.2) r.acc.joint

/-- The 24 bytes of one head in the STATUS reply. -/
def headReportBytes (h : HeadReport) : List Byte :=
  putU 1 (headStateCode h.state) ++ putSet h.status ++ putU 2 h.linkErrors ++ putU 2 h.overruns ++ putU 2 h.gaps ++
    putU 2 h.capacity ++ putU 2 h.length ++ putU 4 (h.oldest.getD 0) ++ putU 4 (h.newest.getD 0) ++ putU 4 h.counter

/-- The 15 bytes of the dump in the STATUS reply, without the pause condition; every field 0 when none is in flight. -/
def dumpReportBytes : Option Dump → List Byte
  | none => bytesOf 15 0
  | some d => putU 1 1 ++ putU 1 d.head.val ++ putFlag d.cursor.isSome ++ putU 4 (d.cursor.getD 0) ++ putU 4 d.last ++
      putU 2 d.sent ++ putU 2 d.skipped

/-- The STATUS reply data, 134 bytes. -/
def statusBytes (r : StatusReport) : List Byte :=
  putU 1 (partCode r.part) ++ putU 1 (loadCode r.loadResult) ++ putU 6 r.time ++ putU 1 (clockCode r.clock) ++
    putU 1 (tideCode r.tide) ++ putU 1 r.count ++ putFlag r.congested ++ putU 1 r.storeSlots ++ putU 1 r.live ++
    putU 2 r.framesDropped ++ putU 2 r.overflows ++ putU 2 r.noticesLost ++ putU 2 r.samplesDropped ++
    headReportBytes r.heads[0] ++ headReportBytes r.heads[1] ++ headReportBytes r.heads[2] ++ headReportBytes r.heads[3] ++
    dumpReportBytes r.dump ++ putU 1 (pauseCode r.pause)

/-! ## Reply data, in the order of each rule's list -/

def intervalBytes (i : Interval) : List Byte := putS 4 i.lower ++ putS 6 i.base ++ putS 4 i.factor

def tiltBytes (t : TiltItems) : List Byte :=
  putS 4 t.offsetX ++ putS 4 t.sensX ++ putS 4 t.offsetY ++ putS 4 t.sensY ++ putS 4 t.gain

def tempBytes (t : TempItems) : List Byte :=
  putS 4 t.offset ++ putS 4 t.scale ++ putS 4 t.reference ++ putS 4 t.alpha ++ putU 2 t.tau

def calDataBytes : CalReadData → List Byte
  | .table n u l => putU 1 n ++ putS 4 u ++ putList intervalBytes l
  | .tilt t => tiltBytes t
  | .temperature t => tempBytes t

def termBytes (c : Constituent) : List Byte :=
  putU 1 c.code ++ putU 1 c.species ++ putU 4 c.amplitude ++ putS 4 c.argument ++ putS 4 c.speed

/-- A slot of a PAGE_LIST reply: the state byte alone for an EMPTY slot; for FILLING and READY the four fields of R50 follow it
without a presence byte, since the state byte tells whether they are there (log 12). -/
def slotBytes : SlotReport → List Byte
  | .empty => putU 1 0
  | .held ready n s l k => putU 1 (if ready then 2 else 1) ++ putU 1 n ++ putU 6 s ++ putU 4 l ++ putU 1 k

def adjBytes (e : AdjEntry) : List Byte := putU 1 e.code ++ putS 4 e.factor ++ putS 4 e.lag

/-- The adjustment list of a record, which is optional (R58, R67): a record without entries has none. -/
def adjustList (r : StationRecord) : Option (List AdjEntry) := if r.adjust.isEmpty then none else some r.adjust

def positionBytes (p : Position) : List Byte := putS 4 p.lat ++ putS 4 p.lon ++ putS 4 p.height

def stationBytes (r : StationRecord) (bucket position : Nat) : List Byte :=
  putU 3 r.number ++ putU 1 (originCode r.origin) ++ positionBytes r.pos ++ putS 4 r.delta ++ putOpt (putList adjBytes) (adjustList r) ++
    putU 1 r.refs ++ putFlag r.current ++ putFlag r.previous ++ putU 1 bucket ++ putU 1 position

def summaryBytes (x : StationSummary) : List Byte :=
  putU 3 x.number ++ putU 1 (originCode x.origin) ++ putU 1 x.refs ++ putFlag x.current ++ putFlag x.previous ++
    putU 1 x.bucket ++ putU 1 x.position

def policyBytes (p : Policy) : List Byte :=
  putU 2 p.target ++ putU 2 p.minimum ++ putU 2 p.settle ++ putU 2 p.runLimit ++ putS 4 p.tiltLimit ++ putS 4 p.rateLimit ++
    putS 4 p.gate ++ putFlag p.tideRequired ++ putU 1 (entryCode p.resume) ++ putFlag p.resettle

/-- The state with its hold reason and its completion reason, where present (R103). -/
def occStateBytes (o : OccState) : List Byte :=
  putU 1 (stateCode (stateName o)) ++
    putOpt (fun r => putU 1 (holdCode r)) (match o with
      | .held r => some r
      | _ => none) ++
    putOpt (fun r => putU 1 (completionCode r)) (match o with
      | .complete r => some r
      | _ => none)

/-- The accumulators of OCC_QUERY, the five sums left out (R103); run number and start time behind one presence byte (log 12). -/
def accBytes (a : Accumulators) : List Byte :=
  putU 2 a.accepted ++ putU 2 a.tideAbsent ++ rejectedBytes a.rejected ++ discardedBytes a.discarded ++ putU 2 a.gaps ++
    putOpt (putU 6) a.first ++ putOpt (putU 6) a.last ++ putOpt (putS 6) a.least ++ putOpt (putS 6) a.greatest ++
    putU 6 a.duration ++ putU 2 a.segments ++ putOpt (fun j => putU 2 j.1 ++ putU 6 j.2) a.joint ++
    putOpt (putU 6) a.completion

def contextBytes (c : ContextReport) : List Byte :=
  putU 2 c.tag ++ putU 1 c.head.val ++ putU 3 c.station ++ occStateBytes c.state ++ policyBytes c.policy ++
    putOpt (fun g : Group => putU 1 g.val) c.group ++ putSet c.wake ++ putSet c.hold ++ putU 2 c.version ++
    flagByte (occFlagBits c.flags) ++ accBytes c.acc ++ putOpt (putS 6) c.mean ++ putOpt (putS 4) c.stdErr ++
    putOpt (putS 4) c.meanTilt ++ putOpt (putS 4) c.meanTemp ++ putOpt (putS 4) c.meanTide ++
    putOpt putTime (match c.state with
      | .settling e => some e
      | _ => none) ++
    putOpt putTime (match c.state with
      | .running _ e => e
      | _ => none) ++
    putOpt (fun k : StoreSlotId => putU 1 k.val) c.slot

def memberBytes (m : Member) : List Byte := putU 2 m.tag ++ putU 1 m.head.val

def groupBytes (r : GroupReport) : List Byte :=
  putU 1 r.target ++ putU 2 r.waitLimit ++ putU 1 (if r.gathering then 1 else 0) ++ putU 2 r.run ++
    putList memberBytes r.arrivals ++ putOpt putTime r.timer ++ putU 1 r.members

def selectorBytes (x : Selector) : List Byte :=
  putFlag x.enable ++ putSet x.heads ++ putSet x.classes ++ putSet x.mask ++ putSet x.value

def enteredBytes (slot : StoreSlotId) (entered : StateName) (recorded committed : Nat) (expiry : Option Int) : List Byte :=
  putU 1 slot.val ++ putU 1 (stateCode entered) ++ putU 2 recorded ++ putU 2 committed ++ putOpt putTime expiry

/-- Reply data (R178). -/
def replyBytes : ReplyData → List Byte
  | .none => []
  | .status r => statusBytes r
  | .senders l => l.flatMap putSet
  | .calRead v st p => putU 2 v ++ putFlag st ++ calDataBytes p
  | .pageOpened k => putU 1 k.val
  | .pageLength n => putU 1 n
  | .pageList t c td slots terms =>
    putU 6 t ++ putU 1 (clockCode c) ++ putU 1 (tideCode td) ++ slots.flatMap slotBytes ++
      (match terms with
        | none => []
        | some l => putList termBytes l)
  | .tide c p t => putS 4 c ++ putU 1 p ++ putU 6 t
  | .stationPut created b p => putU 1 (if created then 0 else 1) ++ putU 1 b ++ putU 1 p
  | .stationAge r n => putU 1 r ++ putU 1 n
  | .station r b p => stationBytes r b p
  | .stationList l =>
    putU 1 l.records ++ putU 1 l.stored ++ putU 1 l.learned ++ putU 1 l.primaries ++ putU 1 l.free ++
      putList summaryBytes l.summaries ++ putOpt (fun c => putU 1 c.1 ++ putU 1 c.2) l.continuation
  | .opened found v e x => putU 1 (if found then 0 else 1) ++ putU 2 v ++ putU 1 (entryCode e) ++ putOpt putTime x
  | .parked k left a d => putU 1 k.val ++ putU 1 (stateCode left) ++ putU 2 a ++ putU 6 d
  | .unparked k e r c x => enteredBytes k e r c x
  | .swapped k e r c x => enteredBytes k e r c x
  | .cloned t h v x => putU 2 t ++ putU 1 h.val ++ putU 2 v ++ putTime x
  | .context c => contextBytes c
  | .contexts l => putList (fun c : ContextSummary =>
      putU 2 c.tag ++ putU 1 c.head.val ++ putU 3 c.station ++ putU 1 (stateCode c.state) ++ putU 2 c.accepted) l
  | .sources l levels =>
    l.flatMap (fun x => putU 1 (sourceModeCode x.mode) ++ putFlag x.masked ++ putFlag x.notify ++ putFlag x.pending) ++
      (List.range 4).flatMap (fun n => putU 1 (if inSet levels n then 0 else 1))
  | .cleared d => putSet d
  | .group r => groupBytes r
  | .marks h l c g => putU 1 h ++ putU 1 l ++ putU 1 c ++ putFlag g
  | .selectors l => l.flatMap selectorBytes
  | .batching t f l => putU 1 t ++ putU 4 f ++ l.flatMap (putU 1)
  | .dumpStarted d =>
    putU 1 d.head.val ++ putU 4 d.first ++ putU 4 d.last ++ putU 2 d.length ++ putU 2 d.skipped ++ putOpt (putU 4) d.cursor ++
      putU 1 d.block ++ putFlag d.quiet

/-! ## The settings image (R180): its items in the order of the table, encoded as R178 encodes them (log 14) -/

def headSettingsBytes (x : HeadSettings) : List Byte :=
  putFlag x.enable ++ putU 4 x.latency ++ putU 2 x.silence ++ putSet x.notify ++ putSet x.halt

def recordBytes (c : Committed) : List Byte :=
  putList intervalBytes c.record.intervals ++ putS 4 c.record.upper ++ tiltBytes c.record.tilt ++ tempBytes c.record.temp ++
    putU 2 c.version

def sourceBytes (x : SourceSettings) : List Byte := putU 1 (sourceModeCode x.mode) ++ putFlag x.masked ++ putFlag x.notify

/-- The items of an image as bytes. -/
def settingsBytes (t : Settings) : List Byte :=
  t.heads.toList.flatMap headSettingsBytes ++
    putU 1 t.plan.val ++
    putU 1 (match t.arbMode with
      | .rotating => 0
      | .fixed => 1) ++
    putU 1 t.arbLimit ++ t.cal.toList.flatMap recordBytes ++ t.sources.toList.flatMap sourceBytes ++
    t.groups.toList.flatMap (fun g => putU 1 g.target ++ putU 2 g.waitLimit) ++ putU 1 t.high ++ putU 1 t.low ++
    t.selectors.toList.flatMap selectorBytes ++ putU 1 t.threshold ++ putU 4 t.flush ++ t.senders.toList.flatMap putSet ++
    policyBytes t.policy

/-- The check word of an image: the CRC-16 over its items in the order of the table (R180). -/
def imageCheck (t : Settings) : BitVec 16 := crc16 (settingsBytes t)

/-- An image is usable when its check word matches and every item is in range (R180). -/
def imageUsable (i : Image) : Bool := settingsOk i.items && i.check == imageCheck i.items

/-! ## Notices (R148 to R150): kind, subkind where the kind has one, notice time, fields -/

/-- Kind and subkind bytes. -/
def noticeHead : Notice → List Byte
  | .event _ _ _ _ => putU 1 0
  | .fault _ _ _ => putU 1 1
  | .pageAvailable _ _ _ => putU 1 2 ++ putU 1 0
  | .pageLapsed => putU 1 2 ++ putU 1 1
  | .pageRetired _ _ _ _ => putU 1 2 ++ putU 1 2
  | .clockStepped _ _ => putU 1 3 ++ putU 1 0
  | .clockLocked _ _ => putU 1 3 ++ putU 1 1
  | .clockUnlocked _ => putU 1 3 ++ putU 1 2
  | .contextHold _ _ _ _ => putU 1 4 ++ putU 1 0
  | .jointRelease _ _ _ _ => putU 1 4 ++ putU 1 1
  | .unjoined _ _ => putU 1 4 ++ putU 1 2
  | .contextStale _ _ _ _ _ => putU 1 4 ++ putU 1 3
  | .aborted _ _ _ _ _ => putU 1 5
  | .dumpEnd _ _ _ _ => putU 1 6
  | .saveEnd _ => putU 1 7
  | .start _ _ _ => putU 1 8

/-- The fields of R149 and R150; the hold reason of a HOLD notice by its place in the list of R150, and the remainder of an UNLOCKED
notice straight after the cause MARK_OFF, without a presence byte (log 12). -/
def noticeFields : Notice → List Byte
  | .event s lvl h w => putU 1 s.val ++ putOpt (fun b => putU 1 (if b then 0 else 1)) lvl ++ putU 1 h ++ putU 1 w
  | .fault n c st => putU 1 n.val ++ putU 1 (causeIndex c) ++ putSet st
  | .pageAvailable n s l => putU 1 n ++ putU 6 s ++ putU 4 l
  | .pageLapsed => []
  | .pageRetired n s l k => putU 1 n ++ putU 6 s ++ putU 4 l ++ putU 1 k.val
  | .clockStepped t d => putU 1 1 ++ putU 6 t ++ putS 6 d
  | .clockLocked t d => putU 1 2 ++ putU 6 t ++ putS 6 d
  | .clockUnlocked c => putU 1 1 ++ (match c with
      | .markOff r => putU 1 0 ++ putU 4 r
      | .markLost => putU 1 1)
  | .contextHold t h left o => putU 2 t ++ putU 1 h.val ++ (match o with
      | .source s => putU 1 0 ++ putU 1 (stateCode left) ++ putU 1 s.val
      | .cause c => putU 1 1 ++ putU 1 (stateCode left) ++ putU 1 (causeIndex c))
  | .jointRelease g r s m => putU 1 g.val ++ putU 2 r ++ putU 6 s ++ putList memberBytes m
  | .unjoined g m => putU 1 g.val ++ putList memberBytes m
  | .contextStale t h r c byCommit => putU 2 t ++ putU 1 h.val ++ putU 2 r ++ putU 2 c ++ putU 1 (if byCommit then 0 else 1)
  | .aborted t h s st a => putU 2 t ++ putU 1 h.val ++ putU 3 s ++ putU 1 (stateCode st) ++ putU 2 a
  | .dumpEnd h s k done => putU 1 h.val ++ putU 2 s ++ putU 2 k ++ putU 1 (if done then 0 else 1)
  | .saveEnd w => putU 1 (if w then 0 else 1)
  | .start k r c => putU 1 (match k with
      | .cold => 0
      | .restart => 1) ++ putU 1 (loadCode r) ++ putU 1 (clockCode c)

/-! ## Messages and frames -/

/-- The body of a message (R171, R177). -/
def messageBody : Message → List Byte
  | .reply _ k st d => putU 1 k ++ putU 1 (statusCode st) ++ replyBytes d
  | .reading r => readingBytes r
  | .notice t n => noticeHead n ++ putU 6 t ++ noticeFields n
  | .batch h c l => putU 1 h.val ++ putU 1 l.length ++ putU 1 (match c with
      | .threshold => 0
      | .flush => 1) ++ l.flatMap sampleBytes
  | .dump h f l => putU 1 h.val ++ putU 4 f ++ putU 1 l.length ++ l.flatMap sampleBytes

/-- The outbound message kind (R177). -/
def messageKind : Message → Byte
  | .reply _ _ _ _ => 0xF0#8
  | .reading _ => 0xF1#8
  | .notice _ _ => 0xF2#8
  | .batch _ _ _ => 0xF3#8
  | .dump _ _ _ => 0xF4#8

/-- Sender and sequence: those of the command for a reply, 0 and 0 otherwise (R177). -/
def messageHeader : Message → Header
  | .reply h _ _ _ => h
  | .reading _ => ⟨0, 0#8⟩
  | .notice _ _ => ⟨0, 0#8⟩
  | .batch _ _ _ => ⟨0, 0#8⟩
  | .dump _ _ _ => ⟨0, 0#8⟩

/-- The envelope of section 10.7 around a body. -/
def envelope (kind : Byte) (h : Header) (body : List Byte) : List Byte :=
  let covered := BitVec.ofNat 8 body.length :: kind :: BitVec.ofNat 8 h.sender.val :: h.seq :: body
  0xA5#8 :: covered ++ crcBytes (crc16 covered)

/-- Chunks of 239 bytes in order, the last holding the remainder; an empty body gives one empty chunk (R177). -/
def chunks : Nat → List Byte → List (List Byte)
  | 0, l => [l]
  | n + 1, l => if l.length ≤ 239 then [l] else l.take 239 :: chunks n (l.drop 239)

/-- Frame bodies: the segment byte gives the index in its low four bits, its top bit is set in the last frame (R177). -/
def segments : Nat → List (List Byte) → List (List Byte)
  | _, [] => []
  | k, [l] => [(BitVec.ofNat 8 (k % 16) ||| 0x80#8) :: l]
  | k, l :: m :: rest => (BitVec.ofNat 8 (k % 16) :: l) :: segments (k + 1) (m :: rest)

/-- The frames a message is transmitted in (R177). -/
def messageFrames (m : Message) : List (List Byte) :=
  (segments 0 (chunks 16 (messageBody m))).map (envelope (messageKind m) (messageHeader m))

end Sys2Proof.Machine
end

