-- ==== Sys2Proof/Machine/TableOps.lean ====
section
/-! DEFINITION. The operations of the station table (chapter 4): buckets and chains, placing, removing, promotion, references
and use marks, aging, listing. -/

namespace Sys2Proof.Machine

/-- The same function on every entry of a vector. -/
def vmap {α β : Type} {n : Nat} (f : α → β) (v : Vector α n) : Vector β n := ⟨⟨v.toList.map f⟩, by simp⟩

/-- A station's bucket: its number modulo 64 (section 4.2). -/
def bucketIndex (number : Nat) : Fin 64 := ⟨number % 64, Nat.mod_lt _ (by decide)⟩

/-- The records of a bucket in chain order: the primary place, then the chain (R59). -/
def bucketRecords (b : Bucket) : List StationRecord := b.primary.toList ++ b.chain

/-- The record of a station number (R59). -/
def findStation (t : StationTable) (number : Nat) : Option StationRecord :=
  (bucketRecords t.buckets[bucketIndex number]).find? fun r => r.number == number

/-- The chain position of a station number's record (R59). -/
def stationPosition (t : StationTable) (number : Nat) : Nat :=
  (bucketRecords t.buckets[bucketIndex number]).findIdx fun r => r.number == number

/-- A bucket whose record of a number is changed in place. -/
def updateBucket (number : Nat) (f : StationRecord → StationRecord) (b : Bucket) : Bucket :=
  let g (r : StationRecord) : StationRecord := if r.number = number then f r else r
  { primary := b.primary.map g, chain := b.chain.map g }

/-- The table with the record of a number changed in place; its location is kept. -/
def updateStation (number : Nat) (f : StationRecord → StationRecord) (t : StationTable) : StationTable :=
  let k := bucketIndex number
  { t with buckets := t.buckets.set k (updateBucket number f t.buckets[k]) }

/-- A new record has room: its primary place is empty, or the free list holds an entry (R60). -/
def hasRoom (t : StationTable) (number : Nat) : Bool :=
  t.buckets[bucketIndex number].primary.isNone || 0 < t.free

/-- A new record is placed in its bucket (R59). -/
def placeRecord (r : StationRecord) (t : StationTable) : StationTable :=
  let k := bucketIndex r.number
  let b := t.buckets[k]
  match b.primary with
  | none => { t with buckets := t.buckets.set k { b with primary := some r } }
  | some _ => { buckets := t.buckets.set k { b with chain := b.chain ++ [r] }, free := t.free - 1 }

/-- A bucket that holds the given records in order: the first in the primary place, the rest chained (R61). -/
def bucketOf : List StationRecord → Bucket
  | [] => { primary := none, chain := [] }
  | r :: rest => { primary := some r, chain := rest }

/-- The bucket once the records that fail the test are removed: the others keep their order and the first of them stands in
the primary place (R61, R71). -/
def keepInBucket (keep : StationRecord → Bool) (b : Bucket) : Bucket := bucketOf ((bucketRecords b).filter keep)

/-- The record of a number is removed: unlinked, or its place emptied, or the next record promoted; the overflow entry that
holds no record any more returns to the free list (R61). -/
def removeStation (number : Nat) (t : StationTable) : StationTable :=
  let k := bucketIndex number
  let b := t.buckets[k]
  let b' := keepInBucket (fun r => r.number != number) b
  { buckets := t.buckets.set k b', free := t.free + (b.chain.length - b'.chain.length) }

/-- Every record in table order (R68). -/
def allRecords (t : StationTable) : List StationRecord := t.buckets.toList.flatMap bucketRecords

/-- Overflow entries that hold records. -/
def chained (t : StationTable) : Nat := (t.buckets.toList.map fun b => b.chain.length).sum

/-- STN_AGE keeps a record that is STORED, referenced or marked (R71). -/
def survivesAge (r : StationRecord) : Bool :=
  !(r.origin == .learned && r.refs == 0 && !r.current && !r.previous)

/-- The previous mark takes the current one, which is cleared (R71). -/
def shiftMarks (r : StationRecord) : StationRecord := { r with previous := r.current, current := false }

/-- STN_AGE on one bucket (R71). -/
def ageBucket (b : Bucket) : Bucket := bucketOf (((bucketRecords b).filter survivesAge).map shiftMarks)

/-- STN_AGE on the whole table (R71). -/
def ageTable (t : StationTable) : StationTable :=
  let aged : StationTable := { t with buckets := vmap ageBucket t.buckets }
  { aged with free := t.free + (chained t - chained aged) }

/-- A context naming the station comes into existence or becomes active (R62, R63). -/
def markUsed (refs : Nat) (r : StationRecord) : StationRecord := { r with refs := r.refs + refs, current := true }

/-- A context naming the station is freed (R62). -/
def dropReference (r : StationRecord) : StationRecord := { r with refs := r.refs - 1 }

/-- The summaries of one bucket from a chain position on (R68). -/
def bucketSummaries (k : Nat) (start : Nat) (b : Bucket) : List StationSummary :=
  ((bucketRecords b).zipIdx.drop start).map fun x =>
    { number := x.1.number, origin := x.1.origin, refs := x.1.refs, current := x.1.current, previous := x.1.previous,
      bucket := k, position := x.2 }

/-- The records at or after a location, in table order (R68). -/
def summariesFrom (t : StationTable) (bucket position : Nat) : List StationSummary :=
  (t.buckets.toList.zipIdx.drop bucket).flatMap fun x => bucketSummaries x.2 (if x.2 = bucket then position else 0) x.1

/-- The STN_LIST reply (R68). -/
def listStations (t : StationTable) (bucket position : Nat) : StationListing :=
  let all := allRecords t
  let from_ := summariesFrom t bucket position
  { records := all.length
    stored := (all.filter fun r => r.origin == .stored).length
    learned := (all.filter fun r => r.origin == .learned).length
    primaries := (t.buckets.toList.filter fun b => b.primary.isSome).length
    free := t.free
    summaries := from_.take 12
    continuation := ((from_.drop 12).head?).map fun x => (x.bucket, x.position) }

end Sys2Proof.Machine
end

