-- ==== Sys2Proof/Machine/Compute.lean ====
section
/-! DEFINITION. The computations of the rules: the tide term (R56), the steps of a correction from its copied inputs (R30 to
R36), the gates (R84, R85), and the values of a reading (R101, R102). All integers, in the resolution steps of R178. -/

namespace Sys2Proof.Machine

/-! ## The tide term -/

/-- The span end of a page (R45). -/
def pageEnd (p : Page) : Nat := p.start + p.length * 1000

/-- The page's span contains the time (R45). -/
def pageContains (p : Page) (t : Nat) : Bool := p.start ≤ t && t < pageEnd p

/-- The spans of two pages overlap: each begins before the other ends (R45). -/
def pagesOverlap (p q : Page) : Bool := p.start < pageEnd q && q.start < pageEnd p

/-- The READY page of a slot. -/
def readyPage : PageSlot → Option Page
  | .ready p => some p
  | .filling _ => none
  | .empty => none

/-- The READY page whose span contains the time (R55). -/
def pageAt (slots : Vector PageSlot 3) (t : Nat) : Option Page :=
  (slots.toList.filterMap readyPage).find? fun p => pageContains p t

/-- The latitude function of a species at a latitude, times the cosine of a phase, eight times over, as a sum of cosines (R56): the
products of sines and cosines are written as sums, angles in angle steps. -/
def latitudeCosines (species : Nat) (lat phase : Int) : CosineSum :=
  match species with
  | 0 => [(-4, phase), (6, phase + 2 * lat), (6, phase - 2 * lat)]
  | 1 => [(4, phase + 2 * lat - 90 * phaseStep), (4, phase - 2 * lat + 90 * phaseStep)]
  | 2 => [(4, phase), (2, phase + 2 * lat), (2, phase - 2 * lat)]
  | 3 => [(3, phase + lat), (3, phase - lat), (1, phase + 3 * lat), (1, phase - 3 * lat)]
  | _ => []

/-- The phase of a constituent in angle steps, exact (R56): argument, plus speed times the hours since span start, plus species times
longitude, minus the adjustment lag. -/
def phaseOf (c : Constituent) (lag lon : Int) (elapsed : Nat) : Int :=
  (c.argument * 100 + c.species * lon - lag * 100) * 3600000 + c.speed * 100 * elapsed

/-- The product of one constituent, scaled (R56): factor, amplitude, adjustment factor and height factor weigh the cosines. -/
def tideTerm (r : StationRecord) (elapsed : Nat) (c : Constituent) : CosineSum :=
  let entry := r.adjust.find? fun e => e.code == c.code
  let factor := (entry.map fun e => e.factor).getD 1000
  let lag := (entry.map fun e => e.lag).getD 0
  let weight := r.delta * c.amplitude * factor * (63710000 + r.pos.height)
  (latitudeCosines c.species (r.pos.lat * 3600000) (phaseOf c lag r.pos.lon elapsed)).map fun y => (-(weight * y.1), y.2)

/-- The tide correction of a station at a time over a page, in 0.1 microgal: minus the exact sum, rounded once (R56). -/
def tideCorrection (r : StationRecord) (p : Page) (t : Nat) : Int :=
  roundSum (8 * 10 ^ 8 * 63710000) (p.terms.flatMap (tideTerm r (t - p.start)))

/-! ## The correction -/

/-- Tilt on one axis in 0.1 arc-second (R30). -/
def tiltOf (raw offset sens : Int) : Int := clampInt (-10000) 10000 (roundDiv ((raw - offset) * sens) 1000)

/-- The tilt correction in 0.1 microgal (R30). -/
def tiltCorrection (gain tx ty : Int) : Int := roundDiv (gain * (tx * tx + ty * ty)) 100000

/-- The sensor temperature in 0.001 degC (R31). -/
def temperatureOf (t : TempItems) (raw : Int) : Int := clampInt (-40000) 85000 (roundDiv ((raw - t.offset) * t.scale) 1000)

/-- Lagged temperature, rate and lag state written back: the four cases of R32, and R33. -/
def lagStep (tau : Nat) (lag : Option LagState) (fresh : Bool) (temp : Int) (time : Nat) : Int × Int × Option LagState :=
  match lag with
  | none => (temp, 0, some { lagged := temp, temp := temp, time := time })
  | some l =>
    if fresh then (temp, 0, some { lagged := temp, temp := temp, time := time })
    else if l.time < time then
      let dt := time - l.time
      let rate := roundDiv (((temp - l.temp).natAbs : Int) * 60000) dt
      let lagged := if tau * 1000 ≤ dt then temp
        else roundDiv (l.lagged * (tau * 1000 : Nat) + (temp - l.lagged) * dt) (tau * 1000)
      (lagged, rate, some { lagged := lagged, temp := temp, time := time })
    else (l.lagged, 0, some l)

/-- The temperature correction in 0.1 microgal (R32). -/
def tempCorrection (t : TempItems) (lagged : Int) : Int := roundDiv (-(t.alpha * (lagged - t.reference))) 100000

/-- The interval a raw count falls in (R34). -/
def intervalAt (upper raw : Int) : List Interval → Option Interval
  | [] => none
  | [i] => if i.lower ≤ raw ∧ raw ≤ upper then some i else none
  | i :: j :: rest => if i.lower ≤ raw ∧ raw < j.lower then some i else intervalAt upper raw (j :: rest)

/-- Calibrated gravity in 0.1 microgal, absent outside the table (R34). -/
def calibratedOf (r : CalRecord) (raw : Int) : Option Int :=
  (intervalAt r.upper raw r.intervals).map fun i => roundDiv (i.base * 1000 + i.factor * (raw - i.lower)) 1000

/-- Corrected gravity: the tide term is left out when it is absent (R36). -/
def correctedOf (calibrated : Option Int) (tilt temp : Int) (tide : Option Int) : Option Int :=
  calibrated.map fun g => g + tilt + temp + tide.getD 0

/-- The tide correction of a correction, or its absence (R35). -/
def correctionTide (c : Correction) : Option Int :=
  if c.sample.timeUnset then none
  else match c.station, c.page with
    | some r, some p => some (tideCorrection r p c.sample.time)
    | none, _ => none
    | some _, none => none

/-- What a correction has formed at its completion: the record, the temperature rate, the lag state to write. -/
structure Corrected where
  record : SampleRecord
  rate : Int
  lag : Option LagState
  deriving DecidableEq, Repr

/-- The computation of a correction from its copied inputs (R30 to R36); sequence, disposition and tag are filled in later
(section 2.5). -/
def correct (c : Correction) : Corrected :=
  let s := c.sample
  let tx := tiltOf s.tiltX c.record.tilt.offsetX c.record.tilt.sensX
  let ty := tiltOf s.tiltY c.record.tilt.offsetY c.record.tilt.sensY
  let temp := temperatureOf c.record.temp s.temp
  let l := lagStep c.record.temp.tau c.lag (s.firstOfRun || s.restart) temp s.time
  let tiltCorr := tiltCorrection c.record.tilt.gain tx ty
  let tempCorr := tempCorrection c.record.temp l.1
  let calibrated := calibratedOf c.record s.raw
  let tide := correctionTide c
  { record :=
      { head := s.head, seq := 0, time := s.time, raw := s.raw, tiltX := tx, tiltY := ty, temp := temp, lagged := l.1,
        calibrated := calibrated, tiltCorr := tiltCorr, tempCorr := tempCorr, tide := tide,
        corrected := correctedOf calibrated tiltCorr tempCorr tide, version := c.version, gap := s.gap,
        backlog := s.backlog, restart := s.restart, headStatus := s.headStatus, timeUnset := s.timeUnset,
        disposition := .unbound, tag := none }
    rate := l.2.1
    lag := l.2.2 }

/-- The record with any tide correction removed and corrected gravity formed again (R37, step 1). -/
def withoutTide (r : SampleRecord) : SampleRecord :=
  { r with tide := none, corrected := correctedOf r.calibrated r.tiltCorr r.tempCorr none }

/-! ## Gates and accumulation -/

/-- The first gate a sample fails, none when it fails none (R84, R85). -/
def failedGate (p : Policy) (a : Accumulators) (r : SampleRecord) (rate : Int) : Option RejectCause :=
  if r.headStatus then some .headStatus
  else if r.calibrated.isNone then some .calRange
  else if p.tiltLimit * p.tiltLimit < r.tiltX * r.tiltX + r.tiltY * r.tiltY then some .tilt
  else if p.rateLimit < rate then some .tempRate
  else if r.tide.isNone && p.tideRequired then some .tide
  else if p.gate ≠ 0 ∧ 10 ≤ a.accepted ∧ p.gate * a.accepted < ((r.corrected.getD 0) * a.accepted - a.gravity).natAbs then
    some .deviation
  else none

/-- The disposition of a record by the bound context (R83). -/
def dispositionOf (c : Context) (r : SampleRecord) (rate : Int) : Disposition :=
  if r.version ≠ c.version then .discarded .stale
  else match c.state with
    | .settling _ => .discarded .settling
    | .waiting => .discarded .waiting
    | .held _ => .discarded .held
    | .complete _ => .discarded .complete
    | .parked => .discarded .complete
    | .running _ _ => match failedGate c.policy c.acc r rate with
      | some cause => .rejected cause
      | none => .accepted

/-- The lesser of a value and an optional one. -/
def leastWith (g : Int) : Option Int → Option Int
  | none => some g
  | some m => some (if g < m then g else m)

/-- The greater of a value and an optional one. -/
def greatestWith (g : Int) : Option Int → Option Int
  | none => some g
  | some m => some (if m < g then g else m)

/-- An ACCEPTED sample is accumulated (R86). -/
def accumulate (r : SampleRecord) (a : Accumulators) : Accumulators :=
  let g := r.corrected.getD 0
  { a with
    accepted := a.accepted + 1
    gravity := a.gravity + g
    squares := a.squares + g * g
    tilt := a.tilt + r.tiltCorr
    temp := a.temp + r.tempCorr
    tide := a.tide + r.tide.getD 0
    tideAbsent := if r.tide.isNone then satAdd a.tideAbsent 1 else a.tideAbsent
    first := some (a.first.getD r.time)
    last := some r.time
    least := leastWith g a.least
    greatest := greatestWith g a.greatest }

/-- A rejected count rises by 1 (R87). -/
def countRejected (c : RejectCause) (n : RejectCounts) : RejectCounts :=
  match c with
  | .headStatus => { n with headStatus := satAdd n.headStatus 1 }
  | .calRange => { n with calRange := satAdd n.calRange 1 }
  | .tilt => { n with tilt := satAdd n.tilt 1 }
  | .tempRate => { n with tempRate := satAdd n.tempRate 1 }
  | .tide => { n with tide := satAdd n.tide 1 }
  | .deviation => { n with deviation := satAdd n.deviation 1 }

/-- A counted gap sample (R87). -/
def countGap (r : SampleRecord) (a : Accumulators) : Accumulators :=
  if r.gap.isSome then { a with gaps := satAdd a.gaps 1 } else a

/-- The accumulators after a disposition (R86, R87). -/
def countDisposition (d : Disposition) (r : SampleRecord) (a : Accumulators) : Accumulators :=
  match d with
  | .accepted => countGap r (accumulate r a)
  | .rejected c => countGap r { a with rejected := countRejected c a.rejected }
  | .discarded .settling => countGap r { a with discarded := { a.discarded with settling := satAdd a.discarded.settling 1 } }
  | .discarded .held => countGap r { a with discarded := { a.discarded with held := satAdd a.discarded.held 1 } }
  | .discarded .waiting => countGap r { a with discarded := { a.discarded with waiting := satAdd a.discarded.waiting 1 } }
  | .discarded .complete => a
  | .discarded .stale => a
  | .unbound => a

/-- The accumulators of a new context (R76). -/
def emptyAccumulators : Accumulators where
  accepted := 0
  gravity := 0
  squares := 0
  tilt := 0
  temp := 0
  tide := 0
  tideAbsent := 0
  rejected := { headStatus := 0, calRange := 0, tilt := 0, tempRate := 0, tide := 0, deviation := 0 }
  discarded := { settling := 0, held := 0, waiting := 0 }
  gaps := 0
  first := none
  last := none
  least := none
  greatest := none
  duration := 0
  segments := 0
  joint := none
  completion := none

/-! ## The values of a reading (R101) -/

/-- Sum over count, absent when the count is 0 (R101). -/
def meanOf (sum : Int) (n : Nat) : Option Int := if n = 0 then none else some (roundDiv sum n)

/-- The standard error, absent below two samples (R101): the root of (n * squares - sum^2) / (n^2 (n - 1)). -/
def standardError (a : Accumulators) : Option Int :=
  if a.accepted < 2 then none
  else some (roundSqrt (a.accepted * a.squares - a.gravity * a.gravity).toNat (a.accepted * a.accepted * (a.accepted - 1)))

/-- The mean tide correction, over the samples that had one (R101). -/
def meanTideOf (a : Accumulators) : Option Int := meanOf a.tide (a.accepted - a.tideAbsent)

/-- The reading of a COMPLETE context (R101, R102, R147). -/
def makeReading (c : Context) (reason : CompletionReason) : Reading where
  tag := c.tag
  head := c.head
  station := c.station
  good := c.policy.minimum ≤ c.acc.accepted
  reason := reason
  completion := c.acc.completion.getD 0
  version := c.version
  target := c.policy.target
  minimum := c.policy.minimum
  mean := meanOf c.acc.gravity c.acc.accepted
  stdErr := standardError c.acc
  meanTilt := meanOf c.acc.tilt c.acc.accepted
  meanTemp := meanOf c.acc.temp c.acc.accepted
  meanTide := meanTideOf c.acc
  acc := c.acc
  flags := c.flags

end Sys2Proof.Machine
end

