-- ==== Sys2Proof/Machine/Ops.lean ====
section
/-! DEFINITION. The operations that more than one block uses: single fields of the state, the outbound queue (chapter 8),
raising a request (R123, R124), the intake of frames (R169), and what every taken command goes through (R171). -/

namespace Sys2Proof.Machine

/-! ## Fields -/

/-- The four heads in number order. -/
def heads : List Head := [0, 1, 2, 3]

/-- The twelve store slots in number order. -/
def storeSlots : List StoreSlotId := [0, 1, 2, 3, 4, 5, 6, 7, 8, 9, 10, 11]

/-- Now: the survey time at which a step is taken (scope, section 6.3). -/
def now (s : State) : Nat := s.clock.time

def setPort (n : Head) (p : HeadPort) (s : State) : State := { s with ports := s.ports.set n p }

def setPartition (n : Head) (l : List Sample) (s : State) : State := { s with partitions := s.partitions.set n l }

def setActive (n : Head) (c : Option Context) (s : State) : State := { s with occ := { s.occ with active := s.occ.active.set n c } }

def setStored (k : StoreSlotId) (c : Option Context) (s : State) : State :=
  { s with occ := { s.occ with store := s.occ.store.set k c } }

def setGroup (g : Group) (j : JointGroup) (s : State) : State := { s with groups := s.groups.set g j }

def setBatch (n : Head) (b : Batch) (s : State) : State := { s with batches := s.batches.set n b }

def setSlot (k : PageSlotId) (p : PageSlot) (s : State) : State := { s with pages := { s.pages with slots := s.pages.slots.set k p } }

def setTable (t : StationTable) (s : State) : State := { s with table := t }

/-! ## Raising a request -/

/-- A source is raised (R123, R124): its pending flag is set, unless the part is STARTING (R131) or the source is OFF. -/
def raise (i : Source) (s : State) : State :=
  if s.sys.part = .ready ∧ s.settings.sources[i].mode ≠ .off then
    { s with events := { s.events with pending := withMember s.events.pending i.val } }
  else s

/-! ## The outbound queue -/

/-- The oldest message's transmission begins when link ready is asserted and none is in flight (R141). -/
def beginTransmission (ready : Bool) (o : Outbound) : Outbound :=
  match o.queue with
  | [] => o
  | m :: _ => if ready && !o.transmitting then { o with transmitting := true, lineOut := messageFrames m } else o

/-- A message takes the tail entry: congestion begins at the high mark (R144), and a transmission may begin (R141). -/
def pushMessage (high : Nat) (ready : Bool) (m : Message) (o : Outbound) : Outbound :=
  beginTransmission ready
    { o with queue := o.queue ++ [m], congested := o.congested || decide (high ≤ o.queue.length + 1) }

/-- A join of a message begins congestion (R144). -/
def startsCongestion (s : State) : Bool := !s.out.congested && decide (s.settings.high ≤ s.out.queue.length + 1)

/-- A message joins, if an entry is free; source 7 is raised when congestion begins (R140, R144). -/
def join (m : Message) (s : State) : State :=
  if s.out.queue.length < Config.queueSize then
    let t : State := { s with out := pushMessage s.settings.high s.pins.linkReady m s.out }
    if startsCongestion s then raise 7 t else t
  else s

/-- A message other than a reply may join: an entry is free and no RESTART is pending (R142, R185). -/
def hasEntry (s : State) : Bool := decide (s.out.queue.length < Config.queueSize) && !s.sys.restartPending

/-- A notice is offered (R142, R146, R148). -/
def offerNotice (n : Notice) (s : State) : State :=
  if hasEntry s then join (.notice (now s) n) s
  else { s with out := { s.out with noticesLost := satAdd s.out.noticesLost 1 } }

/-- A reply joins (R142, R171). -/
def reply (h : Header) (kind : Nat) (st : Status) (d : ReplyData) (s : State) : State := join (.reply h kind st d) s

/-- The reply DONE to a command. -/
def done (h : Header) (k : Kind) (d : ReplyData) (s : State) : State := reply h k.code .done d s

/-- The queue count that a reply reports, itself included (R145, R175). -/
def countWithReply (s : State) : Nat := s.out.queue.length + 1

/-- The congestion state that a reply reports, its own join included (R144, R175). -/
def congestedWithReply (s : State) : Bool := s.out.congested || decide (s.settings.high ≤ countWithReply s)

/-- A head's stream batch is offered (R142, R153): it joins or is discarded and counted, and is empty afterwards. -/
def offerBatch (n : Head) (cause : BatchCause) (s : State) : State :=
  let l := s.batches[n].records
  let t := setBatch n { records := [], expiry := none } s
  if hasEntry s && !s.out.congested then join (.batch n cause l) t
  else { t with out := { t.out with samplesDropped := satAdd t.out.samplesDropped l.length } }

/-! ## The command path -/

/-- The link controller finds a free entry for a reply and may take a command (R170, R185). -/
def canTake (s : State) : Bool := hasEntry s

/-- A valid frame is offered to the command intake (R169). -/
def offerIntake (c : Instr) (s : State) : State :=
  if s.link.intake.length < Config.intakeSize then { s with link := { s.link with intake := s.link.intake ++ [c] } }
  else { s with link := { s.link with overflows := satAdd s.link.overflows 1 } }

/-- A taken command of a known kind: the grounds of R171 in their order, then the command's own grounds, then its action, which
queues the reply. -/
def command {α : Type} (k : Kind) (h : Header) (b : Body α) (ground : α → State → Option Status) (act : α → State → State)
    (s : State) : State :=
  if s.sys.part = .starting ∧ k ≠ .status then reply h k.code .notReady .none s
  else if permitted s.settings h.sender k = false then reply h k.code .denied .none s
  else match b with
    | .malformed => reply h k.code .badValue .none s
    | .ok a => match ground a s with
      | some st => reply h k.code st .none s
      | none => act a s

end Sys2Proof.Machine
end

