-- ==== Sys2Proof/Machine/Contexts.lean ====
section
/-! DEFINITION. What contexts and joint groups do, whatever brings it about (chapters 5 to 7): finding a context, its timers and
running duration, entering and leaving each state, arriving at and leaving a group, completing, its reading, being freed. -/

namespace Sys2Proof.Machine

/-! ## Finding contexts -/

/-- Where a live context stands. -/
inductive Place where
  | active (n : Head)
  | stored (k : StoreSlotId)
  deriving DecidableEq, Repr

/-- The active contexts in head order. -/
def activeContexts (o : Occupations) : List (Head × Context) :=
  heads.filterMap fun n => o.active[n].map fun c => (n, c)

/-- The parked contexts in slot order. -/
def parkedContexts (o : Occupations) : List (StoreSlotId × Context) :=
  storeSlots.filterMap fun k => o.store[k].map fun c => (k, c)

/-- Every live context with its place, active ones first (R103). -/
def liveContexts (o : Occupations) : List (Place × Context) :=
  ((activeContexts o).map fun x => (Place.active x.1, x.2)) ++ (parkedContexts o).map fun x => (Place.stored x.1, x.2)

/-- The live context that carries a tag. -/
def findTag (o : Occupations) (tag : Nat) : Option (Place × Context) := (liveContexts o).find? fun x => x.2.tag == tag

/-- The head whose active context carries a tag. -/
def activeHead (o : Occupations) (tag : Nat) : Option Head := ((activeContexts o).find? fun x => x.2.tag == tag).map fun x => x.1

/-- The lowest-numbered empty store slot (R105). -/
def emptyStoreSlot (o : Occupations) : Option StoreSlotId := storeSlots.find? fun k => o.store[k].isNone

/-- The context gathers: SETTLING, WAITING or RUNNING (R40, R163). -/
def gathering (c : Context) : Bool :=
  match c.state with
  | .settling _ => true
  | .waiting => true
  | .running _ _ => true
  | .held _ => false
  | .complete _ => false
  | .parked => false

/-- Some active context gathers. -/
def anyGathering (o : Occupations) : Bool := (activeContexts o).any fun x => gathering x.2

/-! ## Timers and duration (R78, R79) -/

/-- The running duration with the stretch of a RUNNING context up to now; steps of the clock have moved its start (R41). -/
def runningDuration (t : Nat) (c : Context) : Nat :=
  match c.state with
  | .running since _ => c.acc.duration + ((t : Int) - since).toNat
  | .settling _ => c.acc.duration
  | .waiting => c.acc.duration
  | .held _ => c.acc.duration
  | .complete _ => c.acc.duration
  | .parked => c.acc.duration

/-- The accumulators of a context that leaves its state: the stretch of RUNNING joins the duration (R78). -/
def leaveState (t : Nat) (c : Context) : Accumulators := { c.acc with duration := runningDuration t c }

/-- The context in SETTLING, its settle timer started (R78). -/
def settled (t : Nat) (c : Context) : Context := { c with state := .settling ((t : Int) + 1000 * c.policy.settle) }

/-- The expiry of the settle timer, where it runs. -/
def settleExpiryOf (c : Context) : Option Int :=
  match c.state with
  | .settling e => some e
  | .waiting => none
  | .running _ _ => none
  | .held _ => none
  | .complete _ => none
  | .parked => none

/-- The segment count after an entry to RUNNING from the context's state (R79). -/
def nextSegments (c : Context) : Nat :=
  match c.state with
  | .held _ => if c.acc.segments = 0 then 1 else c.acc.segments
  | .settling _ => satAdd c.acc.segments 1
  | .waiting => satAdd c.acc.segments 1
  | .running _ _ => satAdd c.acc.segments 1
  | .complete _ => satAdd c.acc.segments 1
  | .parked => satAdd c.acc.segments 1

/-- The context in RUNNING, its segment count updated and its limit timer started (R78, R79). -/
def running (t : Nat) (c : Context) : Context :=
  let limit : Option Int :=
    if c.policy.runLimit = 0 then none else some ((t : Int) + 1000 * c.policy.runLimit - c.acc.duration)
  { c with state := .running t limit, acc := { c.acc with segments := nextSegments c } }

/-! ## Joint groups (R134 to R137) -/

/-- A context leaves its group's arrival list if it stands there; an emptied group returns to IDLE (R137). -/
def leaveList (c : Context) (s : State) : State :=
  match c.group with
  | none => s
  | some g =>
    let j := s.groups[g]
    if c.tag ∈ j.arrivals then
      let l := j.arrivals.filter fun t => t != c.tag
      setGroup g { j with arrivals := l, timer := if l.isEmpty then none else j.timer } s
    else s

/-- The members of an arrival list with their heads, as notices and replies give them. -/
def membersOf (o : Occupations) (tags : List Nat) : List Member :=
  tags.filterMap fun t => (activeHead o t).map fun n => { tag := t, head := n }

/-- A member of an arrival list enters RUNNING, changed by f first (R135, R136). -/
def startMember (f : Context → Context) (s : State) (tag : Nat) : State :=
  match activeHead s.occ tag with
  | none => s
  | some n => match s.occ.active[n] with
    | none => s
    | some c => setActive n (some (running (now s) (f c))) s

/-- The run number after a joint release: it wraps from 65535 to 1 (R135). -/
def nextRun (r : Nat) : Nat := if r = 65535 then 1 else r + 1

/-- A joint release: every member on the list enters RUNNING, the group returns to IDLE, the notice is offered (R135). -/
def jointRelease (g : Group) (s : State) : State :=
  let j := s.groups[g]
  let run := nextRun j.run
  let join1 (c : Context) : Context := { c with acc := { c.acc with joint := some (run, now s) } }
  let started := j.arrivals.foldl (startMember join1) s
  let idle := setGroup g { arrivals := [], timer := none, run := run } started
  offerNotice (.jointRelease g run (now s) (membersOf s.occ j.arrivals)) idle

/-- The gathering timer's expiry: every member on the list enters RUNNING with UNJOINED, the group returns to IDLE, the notice
is offered (R136). -/
def gatheringEnds (g : Group) (s : State) : State :=
  let j := s.groups[g]
  let flag (c : Context) : Context := { c with flags := { c.flags with unjoined := true } }
  let started := j.arrivals.foldl (startMember flag) s
  let idle := setGroup g { arrivals := [], timer := none, run := j.run } started
  offerNotice (.unjoined g (membersOf s.occ j.arrivals)) idle

/-- The active context of a head arrives at its group: WAITING, at the tail of the list; the group gathers, or is released when
the list reaches the target (R134). -/
def arrive (n : Head) (c : Context) (g : Group) (s : State) : State :=
  let j := s.groups[g]
  let l := j.arrivals ++ [c.tag]
  let timer : Option Int :=
    if j.arrivals.isEmpty then some ((now s : Int) + 1000 * s.settings.groups[g].waitLimit) else j.timer
  let waits := setGroup g { j with arrivals := l, timer := timer } (setActive n (some { c with state := .waiting }) s)
  if s.settings.groups[g].target ≤ l.length then jointRelease g waits else waits

/-- The settle timer's expiry: RUNNING, or the arrival at the group (R82). -/
def settleEnds (n : Head) (s : State) : State :=
  match s.occ.active[n] with
  | none => s
  | some c => match settleExpiryOf c, c.group with
    | none, _ => s
    | some _, none => setActive n (some (running (now s) c)) s
    | some _, some g => arrive n c g s

/-- A context that has entered SETTLING with a settle time of 0 passes through it at once (R82). -/
def passSettle (n : Head) (s : State) : State :=
  match s.occ.active[n] with
  | none => s
  | some c => if c.policy.settle = 0 then settleEnds n s else s

/-! ## Holds and releases (R90, R92, R94) -/

/-- The active context of a head enters HELD (R90). -/
def enterHeld (n : Head) (c : Context) (r : HoldReason) (s : State) : State :=
  leaveList c (setActive n (some { c with state := .held r, acc := leaveState (now s) c }) s)

/-- A gathering context is held by an event source, with its notice (R90, R126). -/
def holdByEvent (n : Head) (c : Context) (i : Source) (s : State) : State :=
  offerNotice (.contextHold c.tag c.head (stateName c.state) (.source i)) (enterHeld n c .event s)

/-- The fault halt of a head (R17, R94). -/
def faultHalt (n : Head) (cause : FaultCause) (s : State) : State :=
  match s.occ.active[n] with
  | none => s
  | some c =>
    if gathering c then
      offerNotice (.contextHold c.tag c.head (stateName c.state) (.cause cause))
        (enterHeld n { c with flags := { c.flags with faultHeld := true } } .fault s)
    else s

/-- A fault cause is set (R16). -/
def setCause (n : Head) (cause : FaultCause) (s : State) : State :=
  let p := s.ports[n]
  let i := causeIndex cause
  if inSet p.status i then s
  else
    let st := withMember p.status i
    let s1 := setPort n { p with status := st } s
    let s2 := if inSet s.settings.heads[n].notify i then offerNotice (.fault n cause st) s1 else s1
    if inSet s.settings.heads[n].halt i then faultHalt n cause s2 else s2

/-- A held context is released: into SETTLING, passing through it at once where the settle time is 0, or into RUNNING (R92). -/
def releaseHeld (n : Head) (c : Context) (s : State) : State :=
  if c.policy.resettle then passSettle n (setActive n (some (settled (now s) c)) s)
  else setActive n (some (running (now s) c)) s

/-! ## Readings and freeing (R98, R99) -/

/-- The context of a tag has ceased to live: a correction in flight that copied it copied no context that still is (R37). -/
def unbindTag (tag : Nat) (s : State) : State :=
  match s.corr.inFlight with
  | none => s
  | some k =>
    if k.bound = .live tag then { s with corr := { s.corr with inFlight := some { k with bound := .freed } } } else s

/-- The station of a freed context loses a reference (R62). -/
def dropStation (number : Nat) (s : State) : State := setTable (updateStation number dropReference s.table) s

/-- An active context is freed (R99). -/
def freeActive (n : Head) (c : Context) (s : State) : State :=
  let s1 := setActive n none (unbindTag c.tag (dropStation c.station (leaveList c s)))
  { s1 with occ := { s1.occ with waiting := s1.occ.waiting.filter fun m => m != n } }

/-- A parked context is freed (R116, R117). -/
def freeStored (k : StoreSlotId) (c : Context) (s : State) : State :=
  setStored k none (unbindTag c.tag (dropStation c.station s))

/-- The completion reason of a COMPLETE context. -/
def completionReason (c : Context) : Option CompletionReason :=
  match c.state with
  | .complete r => some r
  | .settling _ => none
  | .waiting => none
  | .running _ _ => none
  | .held _ => none
  | .parked => none

/-- The first reading that waits takes a free entry, and its context is freed (R98). -/
def joinReading (s : State) : State :=
  match s.occ.waiting with
  | [] => s
  | n :: _ =>
    if hasEntry s then
      match s.occ.active[n] with
      | none => s
      | some c => match completionReason c with
        | none => s
        | some r => freeActive n c (join (.reading (makeReading c r)) s)
    else s

/-- Every reading that waits and finds an entry takes one, in order; at most four can wait (R98). -/
def offerReadings (s : State) : State := joinReading (joinReading (joinReading (joinReading s)))

/-- The active context of a head enters COMPLETE, its reading waiting (R96). -/
def enterComplete (n : Head) (c : Context) (r : CompletionReason) (s : State) : State :=
  let acc := { leaveState (now s) c with completion := some (now s) }
  let s1 := leaveList c (setActive n (some { c with state := .complete r, acc := acc }) s)
  { s1 with occ := { s1.occ with waiting := s1.occ.waiting ++ [n] } }

/-- The active context of a head enters COMPLETE and its reading is offered (R96, R98). -/
def complete (n : Head) (c : Context) (r : CompletionReason) (s : State) : State := offerReadings (enterComplete n c r s)

end Sys2Proof.Machine
end

