-- ==== Sys2Proof/Machine/Events.lean ====
section
/-! DEFINITION. The event unit and the joint groups' steps (chapter 7): requests of the external lines, latching, dispatch,
EVENT_LINE_CHANGE, EVENT_DISPATCH, GATHERING_EXPIRY, and the actions of EVT_SETUP, EVT_CLEAR and GROUP_SET. Latching comes at the
end of the step or command that raised the request (R123, R125; log 17). -/

namespace Sys2Proof.Machine

/-! ## External lines (R121, R122) -/

/-- The source of an external line. -/
def lineSource (i : Fin 4) : Source := ⟨i.val, Nat.lt_trans i.isLt (by decide)⟩

/-- The line of a source in a level mode is active at a level. -/
def activeLevel (m : SourceMode) (level : Bool) : Bool :=
  match m with
  | .high => level
  | .low => !level
  | .off => false
  | .rising => false
  | .falling => false
  | .on => false

/-- The mode is a level mode. -/
def levelMode (m : SourceMode) : Bool :=
  match m with
  | .high => true
  | .low => true
  | .off => false
  | .rising => false
  | .falling => false
  | .on => false

def setRearm (i : Fin 4) (b : Bool) (s : State) : State :=
  let r := if b then withMember s.events.rearm i.val else withoutMember s.events.rearm i.val
  { s with events := { s.events with rearm := r } }

/-- A line's source has entered its mode: an active line of a level mode raises a request, an inactive one sets the re-arm flag;
any other mode clears the flag (R121, R122). -/
def enterMode (i : Fin 4) (s : State) : State :=
  let m := s.settings.sources[lineSource i].mode
  if levelMode m then
    if activeLevel m (inSet s.events.level i.val) then raise (lineSource i) (setRearm i false s) else setRearm i true s
  else setRearm i false s

/-- The request that a change of a line to the given level raises, and its effect on the re-arm flag (R121, R122). -/
def lineRequest (i : Fin 4) (level : Bool) (s : State) : State :=
  match s.settings.sources[lineSource i].mode with
  | .off => s
  | .on => s
  | .rising => if level then raise (lineSource i) s else s
  | .falling => if level then s else raise (lineSource i) s
  | .high =>
    if level then (if inSet s.events.rearm i.val then raise (lineSource i) (setRearm i false s) else s) else setRearm i true s
  | .low =>
    if level then setRearm i true s
    else if inSet s.events.rearm i.val then raise (lineSource i) (setRearm i false s) else s

/-- The new level is recorded, on the pin and as the last observed level (R121, R131). -/
def setLine (i : Fin 4) (level : Bool) (s : State) : State :=
  let set4 (v : BitVec 4) : BitVec 4 := if level then withMember v i.val else withoutMember v i.val
  { s with pins := { s.pins with lines := set4 s.pins.lines }, events := { s.events with level := set4 s.events.level } }

/-! ## Latching and dispatch (R125 to R127) -/

/-- The sources, highest-numbered first. -/
def sourcesDown : List Source := [7, 6, 5, 4, 3, 2, 1, 0]

/-- The source that would be latched: the highest-numbered one pending and unmasked (R125). -/
def nextSource (s : State) : Option Source :=
  sourcesDown.find? fun i => inSet s.events.pending i.val && !s.settings.sources[i].masked

/-- An empty latch takes the next source, whose pending flag is cleared (R125). -/
def latchNext (s : State) : State :=
  match s.events.latch, nextSource s with
  | none, some i =>
    { s with events := { s.events with pending := withoutMember s.events.pending i.val, latch := some i } }
  | none, none => s
  | some _, _ => s

/-- A dispatch under way: the state, the contexts held and those woken. -/
structure Dispatched where
  state : State
  held : Nat
  woken : Nat

/-- A dispatch acts on the active context of one head (R126). -/
def dispatchHead (i : Source) (x : Dispatched) (n : Head) : Dispatched :=
  match x.state.occ.active[n] with
  | none => x
  | some c => match c.state with
    | .settling _ | .waiting | .running _ _ =>
      if inSet c.hold i.val then { x with state := holdByEvent n c i x.state, held := x.held + 1 } else x
    | .held .stale => x
    | .held .command | .held .event | .held .fault =>
      if inSet c.wake i.val then { x with state := releaseHeld n c x.state, woken := x.woken + 1 } else x
    | .complete _ => x
    | .parked => x

/-- The last observed level of a source's line, for sources 0 to 3 (R127). -/
def levelOf (i : Source) (s : State) : Option Bool := if i.val < 4 then some (inSet s.events.level i.val) else none

/-- The dispatch of a source: the active contexts in head order, then the EVENT notice; the latch empties (R126, R127). -/
def dispatchSource (i : Source) (s : State) : State :=
  let x := heads.foldl (dispatchHead i) { state := s, held := 0, woken := 0 }
  let t := x.state
  let noticed := if t.settings.sources[i].notify then offerNotice (.event i (levelOf i t) x.held x.woken) t else t
  { noticed with events := { noticed.events with latch := none } }

/-- The latched source is dispatched. -/
def dispatchLatched (s : State) : State :=
  match s.events.latch with
  | none => s
  | some i => dispatchSource i s

/-- Latching and dispatching, again and again while a source is latched. -/
def drainSteps : Nat → State → State
  | 0, s => s
  | k + 1, s =>
    let t := latchNext s
    match t.events.latch with
    | none => t
    | some i => drainSteps k (dispatchSource i t)

/-- Every source that is pending and unmasked is dispatched (R125). Ten rounds would do: each source is pending at most once,
and a dispatch raises source 7 alone, when its notices begin congestion, which no dispatch ends. -/
def drain (s : State) : State := drainSteps 16 s

/-! ## Steps of the event unit -/

/-- EVENT_LINE_CHANGE (R121, R122): a step that gives the level already observed is no change. -/
def lineChange (i : Fin 4) (level : Bool) (s : State) : State :=
  if inSet s.events.level i.val = level then s
  else
    let t := setLine i level s
    if s.sys.part = .ready then lineRequest i level t else t

def execEventLineChange (line : Fin 4) (level : Bool) (s : State) : Host.Outcome State Fault Refusal :=
  .next (latchNext (lineChange line level s))

/-- EVENT_DISPATCH (R126): with no source latched or to be latched, nothing is dispatched (log 3). -/
def execEventDispatch (s : State) : Host.Outcome State Fault Refusal := .next (latchNext (dispatchLatched (latchNext s)))

/-- The timer is due: it runs, and the clock has reached its expiry. -/
def due (t : Nat) (e : Option Int) : Bool :=
  match e with
  | none => false
  | some x => x ≤ (t : Int)

/-- GATHERING_EXPIRY (R136). -/
def execGatheringExpiry (g : Group) (s : State) : Host.Outcome State Fault Refusal :=
  .next (if due (now s) s.groups[g].timer then latchNext (gatheringEnds g s) else s)

/-! ## EVT_SETUP (R129) -/

/-- The source a number names, if any. -/
def sourceOf (n : Nat) : Option Source := if h : n < 8 then some ⟨n, h⟩ else none

/-- The line of a source, if it is an external one. -/
def lineOf (i : Source) : Option (Fin 4) := if h : i.val < 4 then some ⟨i.val, h⟩ else none

def evtEntryOk (e : EvtEntry) : Bool := e.source < 8 && modeOk e.source e.mode

def groundEvtSetup (l : List EvtEntry) (_ : State) : Option Status :=
  if l.length ≤ 8 ∧ l.all evtEntryOk ∧ distinct (l.map fun e => e.source) then none else some .badValue

/-- One entry is applied: stored, and a change of mode handled (R129). -/
def applyEntry (s : State) (e : EvtEntry) : State :=
  match sourceOf e.source with
  | none => s
  | some i =>
    let old := s.settings.sources[i].mode
    let new : SourceSettings := { mode := e.mode, masked := e.masked, notify := e.notify }
    let t : State := { s with settings := { s.settings with sources := s.settings.sources.set i new } }
    match lineOf i with
    | none => t
    | some k => if old = e.mode then t else enterMode k t

/-- The reports of all eight sources (R129). -/
def sourceReports (s : State) : List SourceReport :=
  ([0, 1, 2, 3, 4, 5, 6, 7] : List Source).map fun i =>
    let x := s.settings.sources[i]
    { mode := x.mode, masked := x.masked, notify := x.notify, pending := inSet s.events.pending i.val }

def actEvtSetup (h : Header) (l : List EvtEntry) (s : State) : State :=
  let t := l.foldl applyEntry s
  done h .evtSetup (.sources (sourceReports t) t.events.level) t

def handleEvtSetup (h : Header) (b : Body (List EvtEntry)) (s : State) : State :=
  command .evtSetup h b groundEvtSetup (actEvtSetup h) s

/-! ## EVT_CLEAR (R130) -/

def actEvtClear (h : Header) (l : BitVec 8) (s : State) : State :=
  let t : State := { s with events := { s.events with pending := s.events.pending &&& ~~~l } }
  done h .evtClear (.cleared (s.events.pending &&& l)) t

def handleEvtClear (h : Header) (b : Body (BitVec 8)) (s : State) : State :=
  command .evtClear h b (fun _ _ => none) (actEvtClear h) s

/-! ## GROUP_SET (R133) -/

/-- The live members of a group, active and parked (R132). -/
def memberCount (g : Group) (o : Occupations) : Nat := ((liveContexts o).filter fun x => x.2.group == some g).length

def groundGroupSet (p : GroupSetParams) (s : State) : Option Status :=
  match p.settings with
  | none => none
  | some (target, wait) =>
    if groupSettingsOk target wait = false then some .badValue
    else if s.groups[p.group].arrivals ≠ [] then some .inUse
    else none

def groupReport (g : Group) (s : State) : GroupReport where
  target := s.settings.groups[g].target
  waitLimit := s.settings.groups[g].waitLimit
  gathering := !s.groups[g].arrivals.isEmpty
  run := s.groups[g].run
  arrivals := membersOf s.occ s.groups[g].arrivals
  timer := s.groups[g].timer
  members := memberCount g s.occ

def storeGroup (g : Group) (set : Option (Nat × Nat)) (s : State) : State :=
  match set with
  | none => s
  | some (target, wait) =>
    { s with settings := { s.settings with groups := s.settings.groups.set g { target := target, waitLimit := wait } } }

def actGroupSet (h : Header) (p : GroupSetParams) (s : State) : State :=
  let t := storeGroup p.group p.settings s
  done h .groupSet (.group (groupReport p.group t)) t

def handleGroupSet (h : Header) (b : Body GroupSetParams) (s : State) : State :=
  command .groupSet h b groundGroupSet (actGroupSet h) s

end Sys2Proof.Machine
end

