-- ==== Sys2Proof/Machine/Archive.lean ====
section
/-! DEFINITION. The sample archive (chapter 9): sequence numbers, the append of a record, the dump in flight, DUMP_BLOCK, and the
actions of DUMP_START and DUMP_STOP. -/

namespace Sys2Proof.Machine

/-! ## Sequence numbers, modulo 2^32 (R157) -/

/-- The number of sequence numbers. -/
def seqMod : Nat := 4294967296

/-- a plus n, modulo 2^32. -/
def seqAdd (a n : Nat) : Nat := (a + n) % seqMod

/-- a minus b, modulo 2^32. -/
def seqSub (a b : Nat) : Nat := (a + (seqMod - b % seqMod)) % seqMod

/-- The oldest sequence of a ring of length above 0 (R157). -/
def oldestSeq (r : Ring) : Nat := seqSub r.counter r.records.length

/-- The newest sequence of a ring of length above 0 (R157). -/
def newestSeq (r : Ring) : Nat := seqSub r.counter 1

/-- A sequence number lies in the ring (R157). -/
def inRing (r : Ring) (q : Nat) : Bool := seqSub q (oldestSeq r) < r.records.length

def setRing (n : Head) (r : Ring) (s : State) : State := { s with archive := { s.archive with rings := s.archive.rings.set n r } }

def setDump (d : Option Dump) (s : State) : State := { s with archive := { s.archive with dump := d } }

/-! ## The end of a dump and the append (R158, R165, R166) -/

/-- The dump in flight ends, with its notice (R166). -/
def endDump (finished : Bool) (s : State) : State :=
  match s.archive.dump with
  | none => s
  | some d => offerNotice (.dumpEnd d.head d.sent d.skipped finished) (setDump none s)

/-- The dump ends DONE once records sent plus records skipped equal its range length (R166). -/
def endIfCovered (s : State) : State :=
  match s.archive.dump with
  | none => s
  | some d => if d.sent + d.skipped = d.length then endDump true s else s

/-- The dump after the cursor record was overwritten (R165). -/
def skipCursor (d : Dump) (c : Nat) : Dump :=
  { d with cursor := if c = d.last then none else some (seqAdd c 1), skipped := d.skipped + 1 }

/-- The record of a sequence number of a head's ring was overwritten (R165). -/
def overwritten (n : Head) (q : Nat) (s : State) : State :=
  match s.archive.dump with
  | none => s
  | some d =>
    if d.head = n ∧ d.cursor = some q then endIfCovered (setDump (some (skipCursor d q)) s) else s

/-- The ring after an append under a capacity: the oldest record goes when the ring is full (R158). -/
def appendRing (capacity : Nat) (r : SampleRecord) (g : Ring) : Ring :=
  let kept := if g.records.length < capacity then g.records else g.records.drop 1
  { records := kept ++ [r], counter := seqAdd g.counter 1 }

/-- The record takes its sequence number and is appended to its head's ring; a ring of capacity 0 receives none (R157, R158). -/
def archiveRecord (r : SampleRecord) (s : State) : State :=
  let n := r.head
  let g := s.archive.rings[n]
  let cap := Config.capacity s.settings.plan n
  if cap = 0 then s
  else
    let t := setRing n (appendRing cap { r with seq := g.counter } g) s
    if g.records.length < cap then t else overwritten n (oldestSeq g) t

/-! ## Blocks (R163, R164) -/

/-- The conditions of block production hold (R163, R185). -/
def dumpReady (s : State) : Bool :=
  match s.archive.dump with
  | none => false
  | some d => d.cursor.isSome && !s.out.congested && hasEntry s && (!d.quiet || !anyGathering s.occ)

/-- The records of a block from the cursor on: up to the block size and not past the last sequence (R164). -/
def blockRecords (g : Ring) (d : Dump) (c : Nat) : List SampleRecord :=
  (g.records.drop (seqSub c (oldestSeq g))).take (min d.block (seqSub d.last c + 1))

/-- The dump after a block of so many records from the cursor (R164). -/
def afterBlock (d : Dump) (c k : Nat) : Dump :=
  let lastSent := seqAdd c (k - 1)
  { d with cursor := if lastSent = d.last then none else some (seqAdd c k), sent := d.sent + k }

/-- A block is produced (R164). -/
def produceBlock (s : State) : State :=
  match s.archive.dump with
  | none => s
  | some d => match d.cursor with
    | none => s
    | some c =>
      let l := blockRecords s.archive.rings[d.head] d c
      if l.isEmpty then s
      else endIfCovered (join (.dump d.head c l) (setDump (some (afterBlock d c l.length)) s))

/-- DUMP_BLOCK (R163, R164): a paused dump, or none, produces no block. -/
def execDumpBlock (s : State) : Host.Outcome State Fault Refusal :=
  .next (if dumpReady s then latchNext (produceBlock s) else s)

/-! ## DUMP_START (R161, R162) -/

/-- The distance back from the counter. -/
def distanceBack (g : Ring) (first : Nat) : Nat := seqSub g.counter first

/-- The first sequence lies ahead of the ring (R162). -/
def aheadOfRing (g : Ring) (first : Nat) : Bool := !inRing g first && 2147483648 < distanceBack g first

/-- The last sequence of the range (R162). -/
def lastSeq (g : Ring) (first count : Nat) : Nat :=
  if seqSub (newestSeq g) first < count - 1 then newestSeq g else seqAdd first (count - 1)

/-- The dump that an accepted DUMP_START begins (R162; log 16). -/
def newDump (n : Head) (g : Ring) (p : DumpStartParams) : Dump :=
  let last := lastSeq g p.first p.count
  let length := seqSub last p.first + 1
  let back := seqSub (distanceBack g p.first) g.records.length
  { head := n, first := p.first, last := last, length := length,
    cursor := if inRing g p.first then some p.first else if back < length then some (oldestSeq g) else none,
    block := p.block, quiet := p.quiet, sent := 0,
    skipped := if inRing g p.first then 0 else min back length }

def groundDumpStart (p : DumpStartParams) (s : State) : Option Status :=
  match headOf p.head with
  | none => some .badValue
  | some n =>
    if (between 1 8192 p.count && between 1 8 p.block && p.first < seqMod) = false then some .badValue
    else if s.archive.dump.isSome then some .busy
    else if s.archive.rings[n].records.isEmpty || aheadOfRing s.archive.rings[n] p.first then some .notFound
    else none

def actDumpStart (h : Header) (p : DumpStartParams) (s : State) : State :=
  match headOf p.head with
  | none => s
  | some n =>
    let d := newDump n s.archive.rings[n] p
    endIfCovered (reply h Kind.dumpStart.code .accepted (.dumpStarted d) (setDump (some d) s))

def handleDumpStart (h : Header) (b : Body DumpStartParams) (s : State) : State :=
  command .dumpStart h b groundDumpStart (actDumpStart h) s

/-! ## DUMP_STOP (R166) -/

def groundDumpStop (_ : Unit) (s : State) : Option Status := if s.archive.dump.isSome then none else some .notFound

def actDumpStop (h : Header) (_ : Unit) (s : State) : State := endDump false (done h .dumpStop .none s)

def handleDumpStop (h : Header) (b : Body Unit) (s : State) : State :=
  command .dumpStop h b groundDumpStop (actDumpStop h) s

end Sys2Proof.Machine
end

