-- ==== Sys2Proof/Machine/Heads.lean ====
section
/-! DEFINITION. The head ports, the intake store and the arbiter (chapter 1): HEAD_FRAME, SILENCE_EXPIRY, the grant, and the
actions of HEAD_SETUP, SET_PLAN, ARB_SET and FAULT_CLEAR. -/

namespace Sys2Proof.Machine

/-! ## The arbiter (R12 to R14) and the beginning of a correction (R29) -/

/-- The head's partition holds a sample (section 1.7). -/
def waitsForGrant (s : State) (n : Head) : Bool := !s.partitions[n].isEmpty

/-- The other heads after a head in number order, wrapping from H3 to H0 (R13, R14). -/
def headsAfter (n : Head) : List Head := [n + 1, n + 2, n + 3]

/-- The head of the next grant in ROTATING mode (R13). -/
def rotatingChoice (s : State) : Option Head :=
  match s.corr.last with
  | none => heads.find? (waitsForGrant s)
  | some l => (headsAfter l ++ [l]).find? (waitsForGrant s)

/-- The head of the next grant in FIXED mode (R14). -/
def fixedChoice (s : State) : Option Head :=
  match s.corr.last with
  | none => heads.find? (waitsForGrant s)
  | some l =>
    if s.settings.arbLimit ≤ s.corr.service ∧ (headsAfter l).any (waitsForGrant s) then (headsAfter l).find? (waitsForGrant s)
    else heads.find? (waitsForGrant s)

/-- The head of the next grant. -/
def grantChoice (s : State) : Option Head :=
  match s.settings.arbMode with
  | .rotating => rotatingChoice s
  | .fixed => fixedChoice s

/-- The consecutive-service count after a grant to a head (R13, R14). -/
def serviceAfter (s : State) (n : Head) : Nat :=
  match s.settings.arbMode with
  | .rotating => s.corr.service
  | .fixed =>
    if (headsAfter n).any (waitsForGrant s) then (if s.corr.last = some n then s.corr.service + 1 else 1) else 0

/-- A correction with its copied inputs (R29). -/
def beginCorrection (n : Head) (x : Sample) (s : State) : Correction where
  sample := x
  record := s.settings.cal[n].record
  version := s.settings.cal[n].version
  lag := s.cal.lag[n]
  bound := match s.occ.active[n] with
    | none => .none
    | some c => .live c.tag
  station := match s.occ.active[n] with
    | none => none
    | some c => findStation s.table c.station
  page := pageAt s.pages.slots x.time

/-- The oldest sample of a head leaves its partition and its correction begins (R10, R12). -/
def grantHead (n : Head) (s : State) : State :=
  match s.partitions[n] with
  | [] => s
  | x :: rest =>
    setPartition n rest
      { s with corr := { last := some n, service := serviceAfter s n, inFlight := some (beginCorrection n x s) } }

/-- A grant is made when no correction is in flight and some head is pending (R12). -/
def grant (s : State) : State :=
  match s.corr.inFlight, grantChoice s with
  | none, some n => grantHead n s
  | none, none => s
  | some _, _ => s

/-! ## A valid frame (R2, R5 to R10) -/

/-- The head state is one from which a valid frame enters LIVE (R2). -/
def entersLive (x : HeadState) : Bool :=
  match x with
  | .awaiting => true
  | .silent => true
  | .off => false
  | .live _ => false

/-- The port after a valid frame's head state and marks are updated (R2, R6). -/
def portAfterFrame (t silence : Nat) (f : HeadFrame) (p : HeadPort) : HeadPort :=
  { p with
    state := .live ((t : Int) + 1000 * silence)
    firstMark := p.firstMark || entersLive p.state
    restartMark := p.restartMark || f.restarted
    expected := if f.restarted then none else p.expected }

/-- The missed-frame count of a frame, where its counter differs from a present expectation (R5). -/
def missedFrames (expected : Option Byte) (counter : Byte) : Option Nat :=
  match expected with
  | none => none
  | some e => if counter = e then none else some (counter - e).toNat

/-- The anchor after a frame (R7): set by an offset-setting frame. -/
def anchorAfter (t latency : Nat) (f : HeadFrame) (a : Option Anchor) : Anchor :=
  match a with
  | none => { tick := f.tick, time := (t : Int) - latency }
  | some old => if f.backlog && !f.restarted then old else { tick := f.tick, time := (t : Int) - latency }

/-- The signed difference of two head ticks, from -2^31 to 2^31 - 1 (R7). -/
def tickDifference (a b : Nat) : Int :=
  let d := ((a : Int) - b) % 4294967296
  if d < 2147483648 then d else d - 4294967296

/-- The stamp of a time: below 0 it is 0 (R7); beyond the survey clock's range it is free (log 10). -/
def stamp (z : Int) : Nat :=
  if z < 0 then 0 else if z ≤ (Config.maxTime : Int) then z.toNat else (Config.sampleTimeBeyond z).toNat

/-- The sample time of a frame (R7). -/
def sampleTime (a : Anchor) (tick : Nat) : Nat := stamp (a.time + tickDifference tick a.tick)

/-- The decoded sample of a frame (section 1.5), the port being updated already. -/
def decodedSample (n : Head) (f : HeadFrame) (p : HeadPort) (a : Anchor) (unset : Bool) : Sample where
  head := n
  counter := f.counter
  tick := f.tick
  time := sampleTime a f.tick
  raw := f.raw
  tiltX := f.tiltX
  tiltY := f.tiltY
  temp := f.temp
  gap := missedFrames p.expected f.counter
  backlog := f.backlog
  restart := p.restartMark
  headStatus := f.sensorFault || f.ovenUnstable
  timeUnset := unset
  firstOfRun := p.firstMark

/-- The port after a sample has entered the partition (R2, R5, R6). -/
def portAfterPush (x : Sample) (p : HeadPort) : HeadPort :=
  { p with
    expected := some (x.counter + 1)
    restartMark := false
    firstMark := false
    gaps := if x.gap.isSome then satAdd p.gaps 1 else p.gaps }

/-- A sample is pushed into its head's partition, or dropped for overrun (R10). -/
def pushSample (n : Head) (x : Sample) (s : State) : State :=
  if s.partitions[n].length < Config.share s.settings.plan n then
    setPartition n (s.partitions[n] ++ [x]) (setPort n (portAfterPush x s.ports[n]) s)
  else
    let p := s.ports[n]
    setCause n .overrun (setPort n { p with overruns := satAdd p.overruns 1 } s)

/-- A valid frame at a head that is not OFF, in the steps of R9; the push may let the arbiter grant (R12). -/
def acceptFrame (n : Head) (f : HeadFrame) (s : State) : State :=
  let set := s.settings.heads[n]
  let p1 := portAfterFrame (now s) set.silence f s.ports[n]
  let a := anchorAfter (now s) set.latency f p1.anchor
  let p2 := { p1 with anchor := some a }
  let x := decodedSample n f p2 a (s.clock.state == .unset)
  let s1 := setPort n p2 s
  let s2 := if x.headStatus then setCause n .headStatus s1 else s1
  grant (pushSample n x s2)

/-! ## Finding frames (R1) -/

/-- A frame failed a test, or a run of discarded bytes ended: the count rises and LINK_ERROR is set (R1). -/
def linkError (n : Head) (s : State) : State :=
  let p := s.ports[n]
  setCause n .linkError (setPort n { p with linkErrors := satAdd p.linkErrors 1 } s)

def setReceiver (n : Head) (r : Receiver) (s : State) : State :=
  let p := s.ports[n]
  setPort n { p with rx := r } s

/-- The port hunts and collects in the bytes it holds, at most so many bytes or frames (R1); a run of discarded bytes before the
first frame after a start is counted like one between two frames (log 13). -/
def huntFrames (n : Head) : Nat → State → State
  | 0, s => s
  | k + 1, s =>
    let r := s.ports[n].rx
    match r.buf with
    | [] => s
    | b :: rest =>
      if b ≠ 0x5A#8 then
        huntFrames n k (setReceiver n { buf := rest, rescan := r.rescan - 1, junk := r.junk || r.rescan == 0 } s)
      else
        let s1 := if r.junk then linkError n (setReceiver n { r with junk := false } s) else s
        if r.buf.length < headFrameLength then s1
        else
          let bytes := r.buf.take headFrameLength
          if headFrameValid bytes then
            huntFrames n k (acceptFrame n (decodeHeadFrame bytes)
              (setReceiver n { buf := r.buf.drop headFrameLength, rescan := r.rescan - headFrameLength, junk := false } s1))
          else
            huntFrames n k (linkError n
              (setReceiver n { buf := rest, rescan := max (r.rescan - 1) (headFrameLength - 1), junk := false } s1))

/-- Bytes arrive on a head link: a head that is OFF discards them (R1, R19). Of a frame that begins while the head is OFF and ends
after it is enabled, the rest is hunted like any other bytes (log 19). -/
def headBytes (n : Head) (bytes : List Byte) (s : State) : State :=
  let p := s.ports[n]
  if p.state = .off then s
  else
    let buf := p.rx.buf ++ bytes
    huntFrames n (buf.length + 1) (setReceiver n { p.rx with buf := buf } s)

/-- HEAD_FRAME (R9). -/
def execHeadFrame (n : Head) (bytes : List Byte) (s : State) : Host.Outcome State Fault Refusal :=
  .next (latchNext (headBytes n bytes s))

/-! ## Silence (R3) -/

/-- The silence timer of a head is due. -/
def silenceDue (t : Nat) (p : HeadPort) : Bool :=
  match p.state with
  | .live e => e ≤ (t : Int)
  | .off => false
  | .awaiting => false
  | .silent => false

/-- The silence timer expires if it is due (R3). -/
def silenceExpires (n : Head) (s : State) : State :=
  let p := s.ports[n]
  if silenceDue (now s) p then setCause n .silent (setPort n { p with state := .silent } s) else s

/-- SILENCE_EXPIRY (R3). -/
def execSilenceExpiry (n : Head) (s : State) : Host.Outcome State Fault Refusal := .next (latchNext (silenceExpires n s))

/-! ## HEAD_SETUP (R4) -/

/-- A port that has entered OFF (R4). -/
def portOff (p : HeadPort) : HeadPort :=
  { p with
    state := .off
    expected := none
    anchor := none
    firstMark := false
    restartMark := false
    rx := { buf := [], rescan := 0, junk := false } }

/-- The port under a new enable and plan share (R4, R11). -/
def portUnder (enable : Bool) (share : Nat) (p : HeadPort) : HeadPort :=
  if enable && 0 < share then
    match p.state with
    | .off => { p with state := .awaiting }
    | .awaiting => p
    | .live _ => p
    | .silent => p
  else portOff p

/-- The head state with the running silence timer moved to a new limit (R4). -/
def moveSilence (d : Int) (x : HeadState) : HeadState :=
  match x with
  | .live e => .live (e + d)
  | .off => .off
  | .awaiting => .awaiting
  | .silent => .silent

def groundHeadSetup (p : HeadSetupParams) (s : State) : Option Status :=
  match headOf p.head with
  | none => some .badValue
  | some n =>
    if headSettingsOk p.latency p.silence = false then some .badValue
    else if p.enable = false ∧ s.occ.active[n].isSome then some .inUse
    else none

/-- The settings of a head are stored with their effects (R4). -/
def storeHead (n : Head) (p : HeadSetupParams) (s : State) : State :=
  let old := s.settings.heads[n]
  let new : HeadSettings :=
    { enable := p.enable, latency := p.latency, silence := p.silence, notify := p.notify, halt := p.halt }
  let q := portUnder p.enable (Config.share s.settings.plan n) s.ports[n]
  let q1 := { q with state := moveSilence (1000 * ((p.silence : Int) - old.silence)) q.state }
  let t : State := { s with settings := { s.settings with heads := s.settings.heads.set n new } }
  setPort n q1 (if p.enable then t else setPartition n [] t)

def actHeadSetup (h : Header) (p : HeadSetupParams) (s : State) : State :=
  match headOf p.head with
  | none => s
  | some n => silenceExpires n (done h .headSetup .none (storeHead n p s))

def handleHeadSetup (h : Header) (b : Body HeadSetupParams) (s : State) : State :=
  command .headSetup h b groundHeadSetup (actHeadSetup h) s

/-! ## SET_PLAN (R11) -/

/-- The plan a number names, if any. -/
def planOf (n : Nat) : Option (Fin 4) := if h : n < 4 then some ⟨n, h⟩ else none

def groundSetPlan (n : Nat) (s : State) : Option Status :=
  if (planOf n).isNone then some .badValue
  else if (liveContexts s.occ).isEmpty = false then some .inUse
  else if s.archive.dump.isSome then some .inUse
  else if s.corr.inFlight.isSome then some .inUse
  else if heads.any (waitsForGrant s) then some .inUse
  else none

/-- The port of a head under the plan in force. -/
def portOfPlan (plan : Fin 4) (s : State) (n : Head) : HeadPort :=
  portUnder s.settings.heads[n].enable (Config.share plan n) s.ports[n]

/-- A plan is put in force (R11, R159). -/
def putPlan (plan : Fin 4) (s : State) : State :=
  { s with
    settings := { s.settings with plan := plan }
    ports := #v[portOfPlan plan s 0, portOfPlan plan s 1, portOfPlan plan s 2, portOfPlan plan s 3]
    archive := { s.archive with rings := Vector.replicate 4 { records := [], counter := 0 } }
    corr := { s.corr with service := 0 } }

def actSetPlan (h : Header) (n : Nat) (s : State) : State :=
  match planOf n with
  | none => s
  | some plan => done h .setPlan .none (putPlan plan s)

def handleSetPlan (h : Header) (b : Body Nat) (s : State) : State := command .setPlan h b groundSetPlan (actSetPlan h) s

/-! ## ARB_SET (R15) -/

def groundArbSet (p : ArbSetParams) (_ : State) : Option Status := if between 1 15 p.limit then none else some .badValue

def actArbSet (h : Header) (p : ArbSetParams) (s : State) : State :=
  done h .arbSet .none
    { s with settings := { s.settings with arbMode := p.mode, arbLimit := p.limit }, corr := { s.corr with service := 0 } }

def handleArbSet (h : Header) (b : Body ArbSetParams) (s : State) : State := command .arbSet h b groundArbSet (actArbSet h) s

/-! ## FAULT_CLEAR (R18) -/

def groundFaultClear (p : FaultClearParams) (_ : State) : Option Status :=
  if (headOf p.head).isSome then none else some .badValue

def actFaultClear (h : Header) (p : FaultClearParams) (s : State) : State :=
  match headOf p.head with
  | none => s
  | some n =>
    let q := s.ports[n]
    done h .faultClear .none (setPort n { q with status := q.status &&& ~~~p.causes } s)

def handleFaultClear (h : Header) (b : Body FaultClearParams) (s : State) : State :=
  command .faultClear h b groundFaultClear (actFaultClear h) s

end Sys2Proof.Machine
end

