-- ==== Sys2Proof/Machine/Corrections.lean ====
section
/-! DEFINITION. The completion of a correction (R37) and what a record meets there: its disposition, the archive, the stream
batch. CORRECTION_COMPLETE, FLUSH_EXPIRY, and the actions of STREAM_SELECT, STREAM_BATCH and QUEUE_MARKS (chapter 8). -/

namespace Sys2Proof.Machine

/-! ## The hand-on of a record (R37) -/

/-- Step 1 of R37: the tide term goes when the context bound now is not the one the correction copied. -/
def rebound (k : Binding) (o : Option Context) (r : SampleRecord) : SampleRecord :=
  match o, k with
  | none, _ => r
  | some _, .none => r
  | some _, .freed => withoutTide r
  | some c, .live tag => if c.tag = tag then r else withoutTide r

/-- The context after it has given a record its disposition (R86, R87). -/
def afterDisposition (d : Disposition) (r : SampleRecord) (c : Context) : Context :=
  { c with
    acc := countDisposition d r c.acc
    flags := { c.flags with tidePartial := c.flags.tidePartial || (d == .accepted && r.tide.isNone) } }

/-- The record with the disposition and tag that the bound context gives, or UNBOUND (R83). -/
def disposed (o : Option Context) (r : SampleRecord) (rate : Int) : SampleRecord :=
  match o with
  | none => { r with disposition := .unbound, tag := none }
  | some c => { r with disposition := dispositionOf c r rate, tag := some c.tag }

/-- Step 2 of R37 in the head's slot: the counts, and COMPLETE when the target is reached (R86 to R88). -/
def disposeIn (n : Head) (r : SampleRecord) (s : State) : State :=
  match s.occ.active[n] with
  | none => s
  | some c =>
    let c1 := afterDisposition r.disposition r c
    let t := setActive n (some c1) s
    if r.disposition = .accepted ∧ c1.policy.target ≤ c1.acc.accepted then complete n c1 .target t else t

/-- The record joins its head's batch, which is offered at the threshold (R153). -/
def appendBatch (r : SampleRecord) (s : State) : State :=
  let n := r.head
  let b := s.batches[n]
  let l := b.records ++ [r]
  let e : Option Int := if b.records.isEmpty then some ((now s : Int) + s.settings.flush) else b.expiry
  let t := setBatch n { records := l, expiry := e } s
  if s.settings.threshold ≤ l.length then offerBatch n .threshold t else t

/-- Step 6 of R37: the record is offered to the selectors (R151). -/
def streamRecord (r : SampleRecord) (s : State) : State := if streamed s.settings r then appendBatch r s else s

def setLag (n : Head) (l : Option LagState) (s : State) : State := { s with cal := { s.cal with lag := s.cal.lag.set n l } }

/-- Steps 2 to 6 of R37 for a record as step 1 left it. -/
def handOn (n : Head) (r : SampleRecord) (rate : Int) (lag : Option LagState) (s : State) : State :=
  let d := disposed s.occ.active[n] r rate
  let s2 := disposeIn n d s
  let s3 := setLag n lag s2
  let s4 := if d.calibrated.isNone then setCause n .calRange s3 else s3
  let d5 := { d with seq := s4.archive.rings[n].counter }
  streamRecord d5 (archiveRecord d5 s4)

/-- A correction completes: the record is handed on, the correction ends, and the arbiter makes its next grant (R37). -/
def finishCorrection (k : Correction) (s : State) : State :=
  let n := k.sample.head
  let c := correct k
  let r := rebound k.bound s.occ.active[n] c.record
  let t := handOn n r c.rate c.lag s
  grant { t with corr := { t.corr with inFlight := none } }

/-- CORRECTION_COMPLETE (R37): with no correction in flight, nothing completes (log 3). -/
def execCorrectionComplete (s : State) : Host.Outcome State Fault Refusal :=
  match s.corr.inFlight with
  | none => .next s
  | some k => .next (latchNext (finishCorrection k s))

/-- FLUSH_EXPIRY (R153, R154). -/
def execFlushExpiry (n : Head) (s : State) : Host.Outcome State Fault Refusal :=
  .next (if due (now s) s.batches[n].expiry then latchNext (offerBatch n .flush s) else s)

/-! ## STREAM_SELECT (R152) -/

/-- The selector a number names, if any. -/
def selectorOf (n : Nat) : Option (Fin 4) := if h : n < 4 then some ⟨n, h⟩ else none

def groundStreamSelect (p : StreamSelectParams) (_ : State) : Option Status :=
  if (selectorOf p.selector).isNone then some .badValue
  else if p.value &&& ~~~p.mask ≠ 0#4 then some .badValue
  else none

def actStreamSelect (h : Header) (p : StreamSelectParams) (s : State) : State :=
  match selectorOf p.selector with
  | none => s
  | some k =>
    let new : Selector := { enable := p.enable, heads := p.heads, classes := p.classes, mask := p.mask, value := p.value }
    let l := s.settings.selectors.set k new
    done h .streamSelect (.selectors l.toList) { s with settings := { s.settings with selectors := l } }

def handleStreamSelect (h : Header) (b : Body StreamSelectParams) (s : State) : State :=
  command .streamSelect h b groundStreamSelect (actStreamSelect h) s

/-! ## STREAM_BATCH (R155) -/

def groundStreamBatch (p : Option (Nat × Nat)) (_ : State) : Option Status :=
  match p with
  | none => none
  | some (threshold, flush) => if batchingOk threshold flush then none else some .badValue

def storeBatching (p : Option (Nat × Nat)) (s : State) : State :=
  match p with
  | none => s
  | some (threshold, flush) => { s with settings := { s.settings with threshold := threshold, flush := flush } }

/-- A head's batch is brought under new settings: offered at the threshold, else its expiry moved, and offered when that is at
or before now (R155). -/
def rebatch (move : Int) (s : State) (n : Head) : State :=
  let b := s.batches[n]
  if b.records.isEmpty then s
  else if s.settings.threshold ≤ b.records.length then offerBatch n .threshold s
  else
    let e := b.expiry.map fun x => x + move
    let t := setBatch n { b with expiry := e } s
    if due (now s) e then offerBatch n .flush t else t

def batchLengths (s : State) : List Nat := s.batches.toList.map fun b => b.records.length

def actStreamBatch (h : Header) (p : Option (Nat × Nat)) (s : State) : State :=
  let t := storeBatching p s
  let r := done h .streamBatch (.batching t.settings.threshold t.settings.flush (batchLengths t)) t
  if p.isSome then heads.foldl (rebatch ((t.settings.flush : Int) - s.settings.flush)) r else r

def handleStreamBatch (h : Header) (b : Body (Option (Nat × Nat))) (s : State) : State :=
  command .streamBatch h b groundStreamBatch (actStreamBatch h) s

/-! ## QUEUE_MARKS (R145) -/

def groundQueueMarks (p : Option (Nat × Nat)) (_ : State) : Option Status :=
  match p with
  | none => none
  | some (high, low) => if marksOk high low then none else some .badValue

/-- The marks are stored and the congestion state is evaluated against them (R145). -/
def putMarks (high low : Nat) (s : State) : State :=
  let t : State := { s with settings := { s.settings with high := high, low := low } }
  if !s.out.congested && high ≤ s.out.queue.length then raise 7 { t with out := { t.out with congested := true } }
  else if s.out.congested && s.out.queue.length ≤ low then { t with out := { t.out with congested := false } }
  else t

def storeMarks (p : Option (Nat × Nat)) (s : State) : State :=
  match p with
  | none => s
  | some (high, low) => putMarks high low s

def actQueueMarks (h : Header) (p : Option (Nat × Nat)) (s : State) : State :=
  let t := storeMarks p s
  done h .queueMarks (.marks t.settings.high t.settings.low (countWithReply t) (congestedWithReply t)) t

def handleQueueMarks (h : Header) (b : Body (Option (Nat × Nat))) (s : State) : State :=
  command .queueMarks h b groundQueueMarks (actQueueMarks h) s

end Sys2Proof.Machine
end

