-- ==== Sys2Proof/Machine/Calibration.lean ====
section
/-! DEFINITION. The calibration commands (chapter 2): the actions of CAL_STAGE, CAL_COMMIT, CAL_DISCARD and CAL_READ. -/

namespace Sys2Proof.Machine

def setStaged (n : Head) (r : Option CalRecord) (s : State) : State :=
  { s with cal := { s.cal with staged := s.cal.staged.set n r } }

def setCommitted (n : Head) (c : Committed) (s : State) : State :=
  { s with settings := { s.settings with cal := s.settings.cal.set n c } }

/-- The staged record, or a copy of the committed one where there is none (R22). -/
def stagedOrCopy (n : Head) (s : State) : CalRecord := s.cal.staged[n].getD s.settings.cal[n].record

/-! ## CAL_STAGE (R22 to R24) -/

/-- The last index a TABLE part writes in a table of length l (R23). -/
def lastIndex (l : Nat) (p : TablePart) : Nat := if p.intervals.isEmpty then l else p.first + p.intervals.length - 1

/-- The index tests of R23; a part that carries nothing and whose first index lies beyond the table fails them like any other
(log 24). -/
def tableIndexOk (l : Nat) (p : TablePart) : Bool :=
  p.first ≤ l + 1 && p.first + p.intervals.length ≤ 33 &&
    match p.newLength with
    | none => true
    | some n => n ≤ l || n ≤ lastIndex l p

/-- Every item of a part lies in its range (R20, R23). -/
def partOk (p : CalPart) : Bool :=
  match p with
  | .table t =>
    between 1 32 t.first && t.intervals.length ≤ 8 && t.intervals.all intervalOk &&
      (match t.newLength with
        | none => true
        | some n => between 1 32 n) &&
      (match t.upper with
        | none => true
        | some u => countOk u)
  | .tilt t => tiltItemsOk t
  | .temperature t => tempItemsOk t

/-- The intervals after a TABLE part is written (R23). -/
def writeIntervals (old : List Interval) (p : TablePart) : List Interval :=
  let k := p.first - 1
  let l := if p.intervals.isEmpty then old else old.take k ++ p.intervals ++ old.drop (k + p.intervals.length)
  match p.newLength with
  | none => l
  | some n => l.take n

/-- The staged record after a part is written (R23, R24). -/
def writePart (p : CalPart) (r : CalRecord) : CalRecord :=
  match p with
  | .table t => { r with intervals := writeIntervals r.intervals t, upper := t.upper.getD r.upper }
  | .tilt t => { r with tilt := t }
  | .temperature t => { r with temp := t }

/-- The index tests, for a TABLE part alone (R22). -/
def partIndexOk (r : CalRecord) (p : CalPart) : Bool :=
  match p with
  | .table t => tableIndexOk r.intervals.length t
  | .tilt _ => true
  | .temperature _ => true

def groundCalStage (p : CalStageParams) (s : State) : Option Status :=
  match headOf p.head with
  | none => some .badValue
  | some n => if partOk p.part && partIndexOk (stagedOrCopy n s) p.part then none else some .badValue

def actCalStage (h : Header) (p : CalStageParams) (s : State) : State :=
  match headOf p.head with
  | none => s
  | some n => done h .calStage .none (setStaged n (some (writePart p.part (stagedOrCopy n s))) s)

def handleCalStage (h : Header) (b : Body CalStageParams) (s : State) : State :=
  command .calStage h b groundCalStage (actCalStage h) s

/-! ## CAL_COMMIT (R26, R27) -/

/-- The next version: from 65535 it wraps to 1 (R27). -/
def nextVersion (v : Nat) : Nat := if v = 65535 then 1 else v + 1

/-- The context is HELD, whatever its reason. -/
def isHeld (c : Context) : Bool :=
  match c.state with
  | .held _ => true
  | .settling _ => false
  | .waiting => false
  | .running _ _ => false
  | .complete _ => false
  | .parked => false

def groundCalCommit (n : Nat) (s : State) : Option Status :=
  match headOf n with
  | none => some .badValue
  | some n => match s.cal.staged[n] with
    | none => some .notFound
    | some r =>
      if (s.occ.active[n].any fun c => !isHeld c) then some .inUse
      else if recordOk r then none
      else some .badValue

/-- The context in HELD(STALE), with its flag (R95). -/
def stale (c : Context) : Context := { c with state := .held .stale, flags := { c.flags with stale := true } }

/-- A held context meets a commit of its head (R27, R95; log 23). -/
def staleByCommit (n : Head) (version : Nat) (s : State) : State :=
  match s.occ.active[n] with
  | none => s
  | some c =>
    if isHeld c then
      offerNotice (.contextStale c.tag c.head c.version version true) (setActive n (some (stale c)) s)
    else s

def actCalCommit (h : Header) (n : Nat) (s : State) : State :=
  match headOf n with
  | none => s
  | some n => match s.cal.staged[n] with
    | none => s
    | some r =>
      let v := nextVersion s.settings.cal[n].version
      staleByCommit n v (done h .calCommit .none (setStaged n none (setCommitted n { record := r, version := v } s)))

def handleCalCommit (h : Header) (b : Body Nat) (s : State) : State := command .calCommit h b groundCalCommit (actCalCommit h) s

/-! ## CAL_DISCARD (R25) -/

def groundHead (n : Nat) (_ : State) : Option Status := if (headOf n).isSome then none else some .badValue

def actCalDiscard (h : Header) (n : Nat) (s : State) : State :=
  match headOf n with
  | none => s
  | some n => done h .calDiscard .none (setStaged n none s)

def handleCalDiscard (h : Header) (b : Body Nat) (s : State) : State := command .calDiscard h b groundHead (actCalDiscard h) s

/-! ## CAL_READ (R28) -/

/-- The first index a part names lies in its range. -/
def readPartOk (p : CalReadPart) : Bool :=
  match p with
  | .table k => between 1 32 k
  | .tilt => true
  | .temperature => true

def groundCalRead (p : CalReadParams) (s : State) : Option Status :=
  match headOf p.head with
  | none => some .badValue
  | some n =>
    if readPartOk p.part = false then some .badValue
    else if p.staged && s.cal.staged[n].isNone then some .notFound
    else none

/-- The part of a record that is returned. -/
def readPart (r : CalRecord) (p : CalReadPart) : CalReadData :=
  match p with
  | .table k => .table r.intervals.length r.upper ((r.intervals.drop (k - 1)).take 8)
  | .tilt => .tilt r.tilt
  | .temperature => .temperature r.temp

def actCalRead (h : Header) (p : CalReadParams) (s : State) : State :=
  match headOf p.head with
  | none => s
  | some n =>
    let r := if p.staged then stagedOrCopy n s else s.settings.cal[n].record
    done h .calRead (.calRead s.settings.cal[n].version s.cal.staged[n].isSome (readPart r p.part)) s

def handleCalRead (h : Header) (b : Body CalReadParams) (s : State) : State :=
  command .calRead h b groundCalRead (actCalRead h) s

end Sys2Proof.Machine
end

