-- ==== Sys2Proof/Machine/ClockPages.lean ====
section
/-! DEFINITION. The survey clock and the tide page set (chapter 3): steps of the clock, the tide state, TIME_MARK, LOSS_EXPIRY,
PAGE_RETIREMENT, SPAN_START, and the actions of SET_TIME, the page commands and TIDE_QUERY. -/

namespace Sys2Proof.Machine

/-! ## A step of the clock (R8, R41) -/

/-- A head port whose silence timer and anchor are moved. -/
def movePort (d : Int) (p : HeadPort) : HeadPort :=
  { p with state := moveSilence d p.state, anchor := p.anchor.map fun a => { a with time := a.time + d } }

/-- A context whose timers are moved, and the start of its stretch of RUNNING with them. -/
def moveContext (d : Int) (c : Context) : Context :=
  match c.state with
  | .settling e => { c with state := .settling (e + d) }
  | .running since e => { c with state := .running (since + d) (e.map fun x => x + d) }
  | .waiting => c
  | .held _ => c
  | .complete _ => c
  | .parked => c

/-- A step of the survey clock is applied to the timers and anchors of the part (R41). -/
def applyStep (d : Int) (s : State) : State :=
  { s with
    ports := vmap (movePort d) s.ports
    occ := { s.occ with active := vmap (fun o => o.map (moveContext d)) s.occ.active }
    groups := vmap (fun j => { j with timer := j.timer.map fun x => x + d }) s.groups
    batches := vmap (fun b => { b with expiry := b.expiry.map fun x => x + d }) s.batches }

def setClock (c : Clock) (s : State) : State := { s with clock := c }

/-! ## The tide state (R51 to R54) -/

/-- The clock is SET or LOCKED. -/
def clockRuns (s : State) : Bool :=
  match s.clock.state with
  | .unset => false
  | .set => true
  | .locked _ => true

def setTide (x : TideState) (s : State) : State := { s with pages := { s.pages with tide := x } }

/-- The tide state is evaluated, and a change acted on (R51). -/
def evalTide (s : State) : State :=
  if clockRuns s = false then setTide .noTime s
  else match pageAt s.pages.slots (now s) with
    | some p =>
      if s.pages.tide = .available then s
      else offerNotice (.pageAvailable p.number p.start p.length) (setTide .available s)
    | none =>
      if s.pages.tide = .lapsed then s
      else raise 5 (offerNotice .pageLapsed (setTide .lapsed s))

/-- The READY page of a slot is retired (R52). -/
def retirePage (k : PageSlotId) (p : Page) (s : State) : State :=
  raise 4 (offerNotice (.pageRetired p.number p.start p.length k) (setSlot k .empty s))

/-- The READY page of a slot whose span end the clock has reached. -/
def endedPage (k : PageSlotId) (s : State) : Option Page :=
  (readyPage s.pages.slots[k]).filter fun p => pageEnd p ≤ now s

/-- The page of a slot is retired if its span has ended. -/
def retireEnded (s : State) (k : PageSlotId) : State :=
  match endedPage k s with
  | none => s
  | some p => retirePage k p s

/-- The slots in number order. -/
def pageSlots : List PageSlotId := [0, 1, 2]

/-- The page set handles a step of the clock (R54). -/
def pageStep (s : State) : State := evalTide (pageSlots.foldl retireEnded s)

/-- PAGE_RETIREMENT (R52). -/
def execPageRetirement (k : PageSlotId) (s : State) : Host.Outcome State Fault Refusal :=
  .next (if clockRuns s && (endedPage k s).isSome then latchNext (evalTide (retireEnded s k)) else s)

/-- A span start has been reached while the tide state is LAPSED (R53). -/
def spanStarted (s : State) : Bool :=
  clockRuns s && s.pages.tide == .lapsed && (pageAt s.pages.slots (now s)).isSome

/-- SPAN_START (R53). -/
def execSpanStart (s : State) : Host.Outcome State Fault Refusal := .next (if spanStarted s then latchNext (evalTide s) else s)

/-! ## The time mark (R42 to R44) -/

/-- The whole second a mark at a time belongs to, none outside the window (R42). -/
def markSecond (t : Nat) : Option Nat :=
  let r := t % 1000
  if r ≤ 50 then some (t - r) else if 950 ≤ r then some (t + 1000 - r) else none

/-- A mark inside the window snaps the clock (R42). -/
def snapClock (second : Nat) (s : State) : State :=
  let d : Int := (second : Int) - now s
  let s1 := setClock { time := second, state := .locked ((second : Int) + 10000) } s
  let s2 := if s.clock.state = .set then raise 6 (offerNotice (.clockLocked second d) s1) else s1
  pageStep (applyStep d s2)

/-- A mark outside the window unlocks a LOCKED clock (R43). -/
def markOff (s : State) : State :=
  match s.clock.state with
  | .locked _ => offerNotice (.clockUnlocked (.markOff (now s % 1000))) (setClock { s.clock with state := .set } s)
  | .unset => s
  | .set => s

/-- A time mark is taken (R42, R43). -/
def takeMark (s : State) : State :=
  if clockRuns s then
    match markSecond (now s) with
    | some second => snapClock second s
    | none => markOff s
  else s

/-- TIME_MARK (R42). -/
def execTimeMark (s : State) : Host.Outcome State Fault Refusal := .next (latchNext (takeMark s))

/-- The loss timer's expiry, where it runs. -/
def lossTimer (s : State) : Option Int :=
  match s.clock.state with
  | .locked e => some e
  | .unset => none
  | .set => none

/-- LOSS_EXPIRY (R44). -/
def execLossExpiry (s : State) : Host.Outcome State Fault Refusal :=
  .next (if due (now s) (lossTimer s) then
      latchNext (offerNotice (.clockUnlocked .markLost) (setClock { s.clock with state := .set } s))
    else s)

/-! ## SET_TIME (R40) -/

def groundSetTime (t : Nat) (s : State) : Option Status :=
  if Config.maxTime < t then some .badValue else if anyGathering s.occ then some .inUse else none

def actSetTime (h : Header) (t : Nat) (s : State) : State :=
  let d : Int := (t : Int) - now s
  let s1 := done h .setTime .none (setClock { time := t, state := .set } s)
  pageStep (applyStep d (offerNotice (.clockStepped t d) s1))

def handleSetTime (h : Header) (b : Body Nat) (s : State) : State := command .setTime h b groundSetTime (actSetTime h) s

/-! ## Pages (R45 to R50) -/

/-- The page of a slot, FILLING or READY. -/
def slotPage (x : PageSlot) : Option Page :=
  match x with
  | .empty => none
  | .filling p => some p
  | .ready p => some p

/-- The slot that holds a page number, and its page. -/
def findPage (s : State) (number : Nat) : Option (PageSlotId × Page) :=
  (pageSlots.filterMap fun k => (slotPage s.pages.slots[k]).map fun p => (k, p)).find? fun x => x.2.number == number

/-- The slot holds a READY page. -/
def slotReady (s : State) (k : PageSlotId) : Bool := (readyPage s.pages.slots[k]).isSome

/-- The lowest-numbered EMPTY slot. -/
def emptySlot (s : State) : Option PageSlotId := pageSlots.find? fun k => (slotPage s.pages.slots[k]).isNone

def groundPageOpen (p : PageOpenParams) (s : State) : Option Status :=
  if (pageNumberOk p.number && between 3600 259200 p.length && p.start + p.length * 1000 ≤ Config.maxTime) = false then
    some .badValue
  else if (findPage s p.number).isSome then some .existing
  else if (emptySlot s).isNone then some .full
  else none

def actPageOpen (h : Header) (p : PageOpenParams) (s : State) : State :=
  match emptySlot s with
  | none => s
  | some k =>
    done h .pageOpen (.pageOpened k)
      (setSlot k (.filling { number := p.number, start := p.start, length := p.length, terms := [] }) s)

def handlePageOpen (h : Header) (b : Body PageOpenParams) (s : State) : State :=
  command .pageOpen h b groundPageOpen (actPageOpen h) s

def groundPageAdd (p : PageAddParams) (s : State) : Option Status :=
  if (pageNumberOk p.number && between 1 8 p.terms.length && p.terms.all constituentOk) = false then some .badValue
  else match findPage s p.number with
    | none => some .notFound
    | some (k, q) =>
      if slotReady s k then some .wrongState
      else if 24 < q.terms.length + p.terms.length then some .full
      else none

def actPageAdd (h : Header) (p : PageAddParams) (s : State) : State :=
  match findPage s p.number with
  | none => s
  | some (k, q) =>
    let l := q.terms ++ p.terms
    done h .pageAdd (.pageLength l.length) (setSlot k (.filling { q with terms := l }) s)

def handlePageAdd (h : Header) (b : Body PageAddParams) (s : State) : State :=
  command .pageAdd h b groundPageAdd (actPageAdd h) s

/-- The grounds of step 4 of R48. -/
def pageCommittable (s : State) (p : Page) : Bool :=
  !p.terms.isEmpty && distinct (p.terms.map fun c => c.code) && !(clockRuns s && pageEnd p ≤ now s)

/-- The page's span overlaps that of a READY page (R45, R48). -/
def overlapsReady (s : State) (p : Page) : Bool := (s.pages.slots.toList.filterMap readyPage).any fun q => pagesOverlap p q

def groundPageCommit (n : Nat) (s : State) : Option Status :=
  if pageNumberOk n = false then some .badValue
  else match findPage s n with
    | none => some .notFound
    | some (k, p) =>
      if slotReady s k then some .wrongState
      else if pageCommittable s p = false then some .badValue
      else if overlapsReady s p then some .overlap
      else none

def actPageCommit (h : Header) (n : Nat) (s : State) : State :=
  match findPage s n with
  | none => s
  | some (k, p) => evalTide (done h .pageCommit .none (setSlot k (.ready p) s))

def handlePageCommit (h : Header) (b : Body Nat) (s : State) : State := command .pageCommit h b groundPageCommit (actPageCommit h) s

def groundPageDrop (n : Nat) (s : State) : Option Status :=
  if pageNumberOk n = false then some .badValue else if (findPage s n).isNone then some .notFound else none

def actPageDrop (h : Header) (n : Nat) (s : State) : State :=
  match findPage s n with
  | none => s
  | some (k, _) =>
    let t := done h .pageDrop .none (setSlot k .empty s)
    if slotReady s k then evalTide t else t

def handlePageDrop (h : Header) (b : Body Nat) (s : State) : State := command .pageDrop h b groundPageDrop (actPageDrop h) s

def groundPageList (p : Option (Nat × Nat)) (s : State) : Option Status :=
  match p with
  | none => none
  | some (n, k) =>
    if (pageNumberOk n && between 1 24 k) = false then some .badValue
    else if (findPage s n).isNone then some .notFound
    else none

/-- The report of a slot (R50). -/
def slotReport (x : PageSlot) : SlotReport :=
  match x with
  | .empty => .empty
  | .filling p => .held false p.number p.start p.length p.terms.length
  | .ready p => .held true p.number p.start p.length p.terms.length

/-- The constituents that a PAGE_LIST asks for (R50). -/
def listedTerms (p : Option (Nat × Nat)) (s : State) : Option (List Constituent) :=
  match p with
  | none => none
  | some (n, k) => (findPage s n).map fun x => (x.2.terms.drop (k - 1)).take 8

def actPageList (h : Header) (p : Option (Nat × Nat)) (s : State) : State :=
  done h .pageList (.pageList (now s) s.clock.state s.pages.tide (s.pages.slots.toList.map slotReport) (listedTerms p s)) s

def handlePageList (h : Header) (b : Body (Option (Nat × Nat))) (s : State) : State :=
  command .pageList h b groundPageList (actPageList h) s

/-! ## TIDE_QUERY (R57) -/

/-- The time a query is evaluated at. -/
def queryTime (p : TideQueryParams) (s : State) : Nat := p.time.getD (now s)

def groundTideQuery (p : TideQueryParams) (s : State) : Option Status :=
  if (stationOk p.station && queryTime p s ≤ Config.maxTime) = false then some .badValue
  else if (findStation s.table p.station).isNone then some .notFound
  else if (pageAt s.pages.slots (queryTime p s)).isNone then some .noTide
  else none

def actTideQuery (h : Header) (p : TideQueryParams) (s : State) : State :=
  match findStation s.table p.station, pageAt s.pages.slots (queryTime p s) with
  | some r, some q => done h .tideQuery (.tide (tideCorrection r q (queryTime p s)) q.number (queryTime p s)) s
  | none, _ => s
  | some _, none => s

def handleTideQuery (h : Header) (b : Body TideQueryParams) (s : State) : State :=
  command .tideQuery h b groundTideQuery (actTideQuery h) s

end Sys2Proof.Machine
end

