-- ==== Sys2Proof/Machine/Stations.lean ====
section
/-! DEFINITION. The station commands (chapter 4): the actions of STN_PUT, STN_DELETE, STN_AGE, STN_GET and STN_LIST. -/

namespace Sys2Proof.Machine

/-! ## STN_PUT (R64, R65) -/

/-- The ranges of R64, step 1. -/
def stnPutOk (p : StnPutParams) : Bool := stationOk p.station && positionOk p.pos && deltaOk p.delta && adjustOk p.adjust

def groundStnPut (p : StnPutParams) (s : State) : Option Status :=
  if stnPutOk p = false then some .badValue
  else match findStation s.table p.station with
    | some r => if 0 < r.refs ∧ r.pos ≠ p.pos then some .locked else none
    | none => if hasRoom s.table p.station then none else some .full

/-- The record that a STN_PUT of a new number places (R65). -/
def storedRecord (p : StnPutParams) : StationRecord where
  number := p.station
  origin := .stored
  pos := p.pos
  delta := p.delta
  adjust := p.adjust
  refs := 0
  current := false
  previous := false

/-- A record that a STN_PUT replaces (R65). -/
def putRecord (p : StnPutParams) (r : StationRecord) : StationRecord :=
  { r with origin := .stored, pos := p.pos, delta := p.delta, adjust := p.adjust }

/-- The table after a STN_PUT (R65). -/
def putStation (p : StnPutParams) (t : StationTable) : StationTable :=
  match findStation t p.station with
  | some _ => updateStation p.station (putRecord p) t
  | none => placeRecord (storedRecord p) t

def actStnPut (h : Header) (p : StnPutParams) (s : State) : State :=
  let t := putStation p s.table
  done h .stnPut
    (.stationPut (findStation s.table p.station).isNone (bucketIndex p.station).val (stationPosition t p.station)) (setTable t s)

def handleStnPut (h : Header) (b : Body StnPutParams) (s : State) : State := command .stnPut h b groundStnPut (actStnPut h) s

/-! ## STN_DELETE (R66) -/

def groundStnDelete (n : Nat) (s : State) : Option Status :=
  if stationOk n = false then some .badValue
  else match findStation s.table n with
    | none => some .notFound
    | some r => if 0 < r.refs then some .locked else none

def actStnDelete (h : Header) (n : Nat) (s : State) : State := done h .stnDelete .none (setTable (removeStation n s.table) s)

def handleStnDelete (h : Header) (b : Body Nat) (s : State) : State := command .stnDelete h b groundStnDelete (actStnDelete h) s

/-! ## STN_AGE (R71) -/

/-- The number of records in the table. -/
def recordCount (t : StationTable) : Nat := (allRecords t).length

def actStnAge (h : Header) (_ : Unit) (s : State) : State :=
  let t := ageTable s.table
  done h .stnAge (.stationAge (recordCount s.table - recordCount t) (recordCount t)) (setTable t s)

def handleStnAge (h : Header) (b : Body Unit) (s : State) : State := command .stnAge h b (fun _ _ => none) (actStnAge h) s

/-! ## STN_GET (R67) and STN_LIST (R68) -/

def groundStnGet (n : Nat) (s : State) : Option Status :=
  if stationOk n = false then some .badValue
  else if (findStation s.table n).isNone then some .notFound
  else none

def actStnGet (h : Header) (n : Nat) (s : State) : State :=
  match findStation s.table n with
  | none => s
  | some r => done h .stnGet (.station r (bucketIndex n).val (stationPosition s.table n)) s

def handleStnGet (h : Header) (b : Body Nat) (s : State) : State := command .stnGet h b groundStnGet (actStnGet h) s

def groundStnList (p : StnListParams) (_ : State) : Option Status :=
  if p.bucket ≤ 63 ∧ p.position ≤ 64 then none else some .badValue

def actStnList (h : Header) (p : StnListParams) (s : State) : State :=
  done h .stnList (.stationList (listStations s.table p.bucket p.position)) s

def handleStnList (h : Header) (b : Body StnListParams) (s : State) : State :=
  command .stnList h b groundStnList (actStnList h) s

end Sys2Proof.Machine
end

