-- ==== Sys2Proof/Machine/Occupy.lean ====
section
/-! DEFINITION. The occupation steps and commands (chapters 5 and 6): SETTLE_EXPIRY, LIMIT_EXPIRY, READING_JOIN, and the actions
of the OCC commands. -/

namespace Sys2Proof.Machine

/-! ## Expiries and the waiting reading (R82, R89, R98) -/

/-- The expiry of the settle timer of a head's context. -/
def settleTimer (s : State) (n : Head) : Option Int := s.occ.active[n].bind settleExpiryOf

/-- SETTLE_EXPIRY (R82). -/
def execSettleExpiry (n : Head) (s : State) : Host.Outcome State Fault Refusal :=
  .next (if due (now s) (settleTimer s n) then latchNext (settleEnds n s) else s)

/-- The expiry of the limit timer of a context, where it runs. -/
def limitExpiryOf (c : Context) : Option Int :=
  match c.state with
  | .running _ e => e
  | .settling _ => none
  | .waiting => none
  | .held _ => none
  | .complete _ => none
  | .parked => none

/-- The expiry of the limit timer of a head's context. -/
def limitTimer (s : State) (n : Head) : Option Int := s.occ.active[n].bind limitExpiryOf

/-- The limit timer's expiry: COMPLETE(TIME_LIMIT) (R89). -/
def limitEnds (n : Head) (s : State) : State :=
  match s.occ.active[n] with
  | none => s
  | some c => complete n c .timeLimit s

/-- LIMIT_EXPIRY (R89). -/
def execLimitExpiry (n : Head) (s : State) : Host.Outcome State Fault Refusal :=
  .next (if due (now s) (limitTimer s n) then latchNext (limitEnds n s) else s)

/-- READING_JOIN (R98). -/
def execReadingJoin (s : State) : Host.Outcome State Fault Refusal := .next (latchNext (joinReading s))

/-! ## OCC_OPEN (R69, R70, R80, R81) -/

/-- The inline fields lie in their ranges. -/
def inlineOk (x : Option (Position × Option Int)) : Bool :=
  match x with
  | none => true
  | some (p, none) => positionOk p
  | some (p, some d) => positionOk p && deltaOk d

/-- The tests of R80, step 1. -/
def occOpenOk (p : OccOpenParams) (s : State) : Bool :=
  p.tag ≠ 0 && p.tag ≤ 65535 && stationOk p.station && policyOk (combine s.settings.policy p.items) && inlineOk p.inline

/-- The head is LIVE. -/
def isLive (p : HeadPort) : Bool :=
  match p.state with
  | .live _ => true
  | .off => false
  | .awaiting => false
  | .silent => false

/-- The station table's grounds for an OCC_OPEN (R69). -/
def tableGround (p : OccOpenParams) (t : StationTable) : Option Status :=
  match findStation t p.station, p.inline with
  | none, none => some .notFound
  | none, some _ => if hasRoom t p.station then none else some .full
  | some _, none => none
  | some r, some x => if x.1 = r.pos then none else some .mismatch

def groundOccOpen (p : OccOpenParams) (s : State) : Option Status :=
  match headOf p.head with
  | none => some .badValue
  | some n =>
    if occOpenOk p s = false then some .badValue
    else if (findTag s.occ p.tag).isSome then some .existing
    else if isLive s.ports[n] = false then some .wrongState
    else if s.occ.active[n].isSome then some .inUse
    else tableGround p s.table

/-- The record that an OCC_OPEN learns (R70). -/
def learnedRecord (number : Nat) (pos : Position) (delta : Option Int) : StationRecord where
  number := number
  origin := .learned
  pos := pos
  delta := delta.getD 1160
  adjust := []
  refs := 1
  current := true
  previous := false

/-- The station table's part in an OCC_OPEN that passes (R70). -/
def openStation (p : OccOpenParams) (t : StationTable) : StationTable :=
  match findStation t p.station, p.inline with
  | some _, _ => updateStation p.station (markUsed 1) t
  | none, some x => placeRecord (learnedRecord p.station x.1 x.2) t
  | none, none => t

/-- A new context in its entry state (R81). -/
def newContext (n : Head) (p : OccOpenParams) (s : State) : Context :=
  let c : Context :=
    { tag := p.tag, head := n, station := p.station, state := .held .command, policy := combine s.settings.policy p.items,
      group := p.group, wake := p.wake, hold := p.hold, version := s.settings.cal[n].version, acc := emptyAccumulators,
      flags := { unjoined := false, stale := false, faultHeld := false, tidePartial := false } }
  match p.entry with
  | .settling => settled (now s) c
  | .held => c

def actOccOpen (h : Header) (p : OccOpenParams) (s : State) : State :=
  match headOf p.head with
  | none => s
  | some n =>
    let c := newContext n p s
    let t := setActive n (some c) (setTable (openStation p s.table) s)
    passSettle n
      (done h .occOpen (.opened (findStation s.table p.station).isSome c.version p.entry (settleExpiryOf c)) t)

def handleOccOpen (h : Header) (b : Body OccOpenParams) (s : State) : State :=
  command .occOpen h b groundOccOpen (actOccOpen h) s

/-! ## OCC_HOLD and OCC_RELEASE (R91, R93) -/

def groundOccHold (tag : Nat) (s : State) : Option Status :=
  if tag = 0 then some .badValue
  else match findTag s.occ tag with
    | none => some .notFound
    | some (_, c) => if gathering c then none else some .wrongState

def actOccHold (h : Header) (tag : Nat) (s : State) : State :=
  match findTag s.occ tag with
  | some (.active n, c) => done h .occHold .none (enterHeld n c .command s)
  | some (.stored _, _) => s
  | none => s

def handleOccHold (h : Header) (b : Body Nat) (s : State) : State := command .occHold h b groundOccHold (actOccHold h) s

def groundOccRelease (tag : Nat) (s : State) : Option Status :=
  if tag = 0 then some .badValue
  else match findTag s.occ tag with
    | none => some .notFound
    | some (_, c) =>
      if c.state = .held .stale then some .stale else if isHeld c then none else some .wrongState

def actOccRelease (h : Header) (tag : Nat) (s : State) : State :=
  match findTag s.occ tag with
  | some (.active n, c) => releaseHeld n c (done h .occRelease .none s)
  | some (.stored _, _) => s
  | none => s

def handleOccRelease (h : Header) (b : Body Nat) (s : State) : State :=
  command .occRelease h b groundOccRelease (actOccRelease h) s

/-! ## OCC_CLOSE (R97, R116) -/

/-- The outbound queue holds two free entries (R116). -/
def twoFree (s : State) : Bool := s.out.queue.length + 2 ≤ Config.queueSize

def groundOccClose (tag : Nat) (s : State) : Option Status :=
  if tag = 0 then some .badValue
  else match findTag s.occ tag with
    | none => some .notFound
    | some (.active _, c) => if (completionReason c).isSome then some .wrongState else none
    | some (.stored _, _) => if twoFree s then none else some .busy

/-- The reading of a parked context that is closed (R116). -/
def parkedReading (t : Nat) (c : Context) : Reading :=
  makeReading { c with acc := { c.acc with completion := some t } } .command

def actOccClose (h : Header) (tag : Nat) (s : State) : State :=
  match findTag s.occ tag with
  | none => s
  | some (.active n, c) => complete n c .command (done h .occClose .none s)
  | some (.stored k, c) => freeStored k c (join (.reading (parkedReading (now s) c)) (done h .occClose .none s))

def handleOccClose (h : Header) (b : Body Nat) (s : State) : State := command .occClose h b groundOccClose (actOccClose h) s

/-! ## OCC_ABORT (R100, R117) -/

def groundTag (tag : Nat) (s : State) : Option Status :=
  if tag = 0 then some .badValue else if (findTag s.occ tag).isNone then some .notFound else none

/-- The context of a place is freed. -/
def freeAt (x : Place × Context) (s : State) : State :=
  match x.1 with
  | .active n => freeActive n x.2 s
  | .stored k => freeStored k x.2 s

def actOccAbort (h : Header) (tag : Nat) (s : State) : State :=
  match findTag s.occ tag with
  | none => s
  | some x =>
    let c := x.2
    offerNotice (.aborted c.tag c.head c.station (stateName c.state) c.acc.accepted) (done h .occAbort .none (freeAt x s))

def handleOccAbort (h : Header) (b : Body Nat) (s : State) : State := command .occAbort h b groundTag (actOccAbort h) s

/-! ## OCC_DEFAULTS (R75) -/

def groundOccDefaults (p : Policy) (_ : State) : Option Status := if policyOk p then none else some .badValue

def actOccDefaults (h : Header) (p : Policy) (s : State) : State :=
  done h .occDefaults .none { s with settings := { s.settings with policy := p } }

def handleOccDefaults (h : Header) (b : Body Policy) (s : State) : State :=
  command .occDefaults h b groundOccDefaults (actOccDefaults h) s

/-! ## OCC_QUERY (R103) -/

/-- The store slot of a place. -/
def slotOf (p : Place) : Option StoreSlotId :=
  match p with
  | .active _ => none
  | .stored k => some k

/-- The detail of one context (R103). -/
def contextReport (t : Nat) (x : Place × Context) : ContextReport :=
  let c := x.2
  { tag := c.tag, head := c.head, station := c.station, state := c.state, policy := c.policy, group := c.group, wake := c.wake,
    hold := c.hold, version := c.version, flags := c.flags, acc := leaveState t c,
    mean := meanOf c.acc.gravity c.acc.accepted, stdErr := standardError c.acc, meanTilt := meanOf c.acc.tilt c.acc.accepted,
    meanTemp := meanOf c.acc.temp c.acc.accepted, meanTide := meanTideOf c.acc, slot := slotOf x.1 }

/-- The summary of one context (R103). -/
def contextSummary (c : Context) : ContextSummary where
  tag := c.tag
  head := c.head
  station := c.station
  state := stateName c.state
  accepted := c.acc.accepted

def groundOccQuery (tag : Option Nat) (s : State) : Option Status :=
  match tag with
  | none => none
  | some t => groundTag t s

/-- The data of the OCC_QUERY reply (R103). -/
def occQueryData (tag : Option Nat) (s : State) : ReplyData :=
  match tag with
  | none => .contexts ((liveContexts s.occ).map fun x => contextSummary x.2)
  | some t => match findTag s.occ t with
    | none => .none
    | some x => .context (contextReport (now s) x)

def actOccQuery (h : Header) (tag : Option Nat) (s : State) : State := done h .occQuery (occQueryData tag s) s

def handleOccQuery (h : Header) (b : Body (Option Nat)) (s : State) : State :=
  command .occQuery h b groundOccQuery (actOccQuery h) s

/-! ## OCC_PARK (R106 to R108) -/

/-- A context that has entered PARKED (R106). -/
def parkedContext (t : Nat) (c : Context) : Context := { c with state := .parked, acc := leaveState t c }

/-- The context is COMPLETE or PARKED. -/
def notParkable (c : Context) : Bool := !(gathering c || isHeld c)

/-- R107; a context whose limit has expired and whose reading has joined lives no more, and its tag is not found (log 28). -/
def groundOccPark (tag : Nat) (s : State) : Option Status :=
  if tag = 0 then some .badValue
  else match findTag s.occ tag with
    | none => some .notFound
    | some (_, c) =>
      if notParkable c then some .wrongState else if (emptyStoreSlot s.occ).isNone then some .full else none

/-- The context of a head moves into a store slot (R106, R108). -/
def park (n : Head) (k : StoreSlotId) (c : Context) (s : State) : State :=
  setStored k (some (parkedContext (now s) c)) (setActive n none (leaveList c s))

def actOccPark (h : Header) (tag : Nat) (s : State) : State :=
  match findTag s.occ tag, emptyStoreSlot s.occ with
  | some (.active n, c), some k =>
    done h .occPark (.parked k (stateName c.state) c.acc.accepted (runningDuration (now s) c)) (park n k c s)
  | some (.active _, _), none => s
  | some (.stored _, _), _ => s
  | none, _ => s

def handleOccPark (h : Header) (b : Body Nat) (s : State) : State := command .occPark h b groundOccPark (actOccPark h) s

/-! ## OCC_UNPARK (R109 to R111) -/

/-- The context re-enters HELD(STALE) (R109). -/
def staleAtResume (committed : Nat) (c : Context) : Bool := c.version ≠ committed || c.flags.stale

/-- A parked context in the state it enters when it becomes active (R109). -/
def resumed (t committed : Nat) (c : Context) : Context :=
  if staleAtResume committed c then stale c
  else match c.policy.resume with
    | .settling => settled t c
    | .held => { c with state := .held .command }

/-- A context becomes active on its head, its station's current mark set (R63, R109). -/
def activate (c : Context) (s : State) : State :=
  setActive c.head (some (resumed (now s) s.settings.cal[c.head].version c))
    (setTable (updateStation c.station (markUsed 0) s.table) s)

/-- What follows the reply when a context has become active: the STALE notice, or its passing through SETTLING (R109, R82). -/
def afterResume (c : Context) (committed : Nat) (s : State) : State :=
  if staleAtResume committed c then offerNotice (.contextStale c.tag c.head c.version committed false) s else passSettle c.head s

def groundOccUnpark (tag : Nat) (s : State) : Option Status :=
  if tag = 0 then some .badValue
  else match findTag s.occ tag with
    | none => some .notFound
    | some (.active _, _) => some .wrongState
    | some (.stored _, c) =>
      if isLive s.ports[c.head] = false then some .wrongState
      else if s.occ.active[c.head].isSome then some .inUse
      else none

def actOccUnpark (h : Header) (tag : Nat) (s : State) : State :=
  match findTag s.occ tag with
  | some (.stored k, c) =>
    let v := s.settings.cal[c.head].version
    let c1 := resumed (now s) v c
    afterResume c v
      (done h .occUnpark (.unparked k (stateName c1.state) c.version v (settleExpiryOf c1)) (activate c (setStored k none s)))
  | some (.active _, _) => s
  | none => s

def handleOccUnpark (h : Header) (b : Body Nat) (s : State) : State := command .occUnpark h b groundOccUnpark (actOccUnpark h) s

/-! ## OCC_SWAP (R112, R113) -/

def groundOccSwap (p : OccSwapParams) (s : State) : Option Status :=
  if p.active = 0 ∨ p.parked = 0 ∨ p.active = p.parked then some .badValue
  else match findTag s.occ p.active, findTag s.occ p.parked with
    | none, _ => some .notFound
    | some _, none => some .notFound
    | some (_, a), some (place, b) =>
      if notParkable a then some .wrongState
      else if (slotOf place).isNone then some .wrongState
      else if a.head ≠ b.head then some .wrongHead
      else none

def actOccSwap (h : Header) (p : OccSwapParams) (s : State) : State :=
  match findTag s.occ p.active, findTag s.occ p.parked with
  | some (.active n, a), some (.stored k, b) =>
    let v := s.settings.cal[b.head].version
    let b1 := resumed (now s) v b
    afterResume b v
      (done h .occSwap (.swapped k (stateName b1.state) b.version v (settleExpiryOf b1)) (activate b (park n k a s)))
  | some (.active _, _), some (.active _, _) => s
  | some (.active _, _), none => s
  | some (.stored _, _), _ => s
  | none, _ => s

def handleOccSwap (h : Header) (b : Body OccSwapParams) (s : State) : State :=
  command .occSwap h b groundOccSwap (actOccSwap h) s

/-! ## OCC_CLONE (R114, R115) -/

def groundOccClone (p : OccCloneParams) (s : State) : Option Status :=
  match headOf p.head with
  | none => some .badValue
  | some n =>
    if p.source = 0 ∨ p.tag = 0 ∨ 65535 < p.tag then some .badValue
    else if (findTag s.occ p.source).isNone then some .notFound
    else if (findTag s.occ p.tag).isSome then some .existing
    else if isLive s.ports[n] = false then some .wrongState
    else if s.occ.active[n].isSome then some .inUse
    else none

/-- The clone of a context on a head (R115). -/
def cloned (tag : Nat) (n : Head) (version t : Nat) (c : Context) : Context :=
  settled t
    { tag := tag, head := n, station := c.station, state := .held .command, policy := c.policy, group := c.group, wake := c.wake,
      hold := c.hold, version := version, acc := emptyAccumulators,
      flags := { unjoined := false, stale := false, faultHeld := false, tidePartial := false } }

def actOccClone (h : Header) (p : OccCloneParams) (s : State) : State :=
  match headOf p.head, findTag s.occ p.source with
  | some n, some (_, c) =>
    let v := s.settings.cal[n].version
    let c1 := cloned p.tag n v (now s) c
    let t := setActive n (some c1) (setTable (updateStation c.station (markUsed 1) s.table) s)
    passSettle n (done h .occClone (.cloned p.tag n v ((now s : Int) + 1000 * c.policy.settle)) t)
  | some _, none => s
  | none, _ => s

def handleOccClone (h : Header) (b : Body OccCloneParams) (s : State) : State :=
  command .occClone h b groundOccClone (actOccClone h) s

end Sys2Proof.Machine
end

