-- ==== Sys2Proof/Machine/Start.lean ====
section
/-! DEFINITION. Start-up, the settings image and RESTART (chapter 11): COLD_START, LOAD_COMPLETE, SAVE_COMPLETE, a RESTART taking
effect, and the actions of SAVE and RESTART. -/

namespace Sys2Proof.Machine

/-! ## Starts (R181, R184 to R186) -/

/-- The image, its check word made invalid (R183): the complement of the one that matches (log 14). -/
def spoilt (i : Image) : Image := { i with check := ~~~imageCheck i.items }

/-- The image a cold start finds: a write that it interrupts leaves an unusable one (R184), with the items it had (log 14). -/
def imageAtColdStart (u : PartUnit) : Image := if u.saving.isSome then spoilt u.image else u.image

/-- A cold start begins the load, with the clock at 0 and UNSET (R39, R181). -/
def coldStart (s : State) : State :=
  State.starting s.pending
    { part := .starting, startKind := .cold, loadResult := .storeDefaulted, restartPending := false, saving := none,
      image := imageAtColdStart s.sys }
    { time := 0, state := .unset } .noTime s.pins s.choices

/-- COLD_START (R181). -/
def execColdStart (s : State) : Host.Outcome State Fault Refusal := .next (coldStart s)

/-- The tide state at a start with no page READY (R51). -/
def startTide (c : ClockState) : TideState :=
  match c with
  | .unset => .noTime
  | .set => .lapsed
  | .locked _ => .lapsed

/-- A RESTART takes effect: every block as at a cold start, but for the clock (R186). -/
def restartNow (s : State) : State :=
  State.starting s.pending
    { part := .starting, startKind := .restart, loadResult := .storeDefaulted, restartPending := false, saving := none,
      image := s.sys.image }
    s.clock (startTide s.clock.state) s.pins s.choices

/-! ## LOAD_COMPLETE (R182) -/

/-- The settings that a load takes (R182, step 1). -/
def loadedSettings (i : Image) : Settings := if imageUsable i then i.items else Config.factory

/-- The result of a load (R182, step 1). -/
def loadOutcome (i : Image) : LoadResult := if imageUsable i then .loaded else .storeDefaulted

/-- Steps 1 to 3 of R182: the settings are in force, the heads and the tide state follow them, the part is READY. -/
def takeSettings (s : State) : State :=
  let t := loadedSettings s.sys.image
  let port (n : Head) : HeadPort := portUnder t.heads[n].enable (Config.share t.plan n) s.ports[n]
  { s with
    settings := t
    ports := #v[port 0, port 1, port 2, port 3]
    pages := { s.pages with tide := startTide s.clock.state }
    sys := { s.sys with part := .ready, loadResult := loadOutcome s.sys.image } }

/-- The four external lines in number order. -/
def lines : List (Fin 4) := [0, 1, 2, 3]

/-- The completion of the load (R182). -/
def finishLoad (s : State) : State :=
  let t := takeSettings s
  let noticed := offerNotice (.start t.sys.startKind t.sys.loadResult t.clock.state) t
  drain (lines.foldl (fun u i => enterMode i u) noticed)

/-- LOAD_COMPLETE (R182): with no load in flight, nothing completes (log 3). -/
def execLoadComplete (s : State) : Host.Outcome State Fault Refusal :=
  .next (if s.sys.part = .starting then finishLoad s else s)

/-! ## SAVE (R183, R184) -/

def groundSave (_ : Unit) (s : State) : Option Status := if s.sys.saving.isSome then some .busy else none

/-- A SAVE begins: the copy is taken and the stored check word made invalid (R183). -/
def beginSave (s : State) : State :=
  { s with sys := { s.sys with saving := some s.settings, image := spoilt s.sys.image } }

def actSave (h : Header) (_ : Unit) (s : State) : State := reply h Kind.save.code .accepted .none (beginSave s)

def handleSave (h : Header) (b : Body Unit) (s : State) : State := command .save h b groundSave (actSave h) s

/-- The image after a write of a copy (R184): its check word is that of the copy when the read-back matched and invalid
otherwise; the items are the copy's in either case (log 14). -/
def writtenImage (copy : Settings) (written : Bool) : Image :=
  let i : Image := { items := copy, check := imageCheck copy }
  if written then i else spoilt i

/-- SAVE_COMPLETE (R184), with the outcome of the read-back (log 15): with no SAVE in flight, nothing completes (log 3). -/
def execSaveComplete (written : Bool) (s : State) : Host.Outcome State Fault Refusal :=
  match s.sys.saving with
  | none => .next s
  | some copy =>
    .next (latchNext (offerNotice (.saveEnd written)
      { s with sys := { s.sys with saving := none, image := writtenImage copy written } }))

/-! ## RESTART (R185) -/

def actRestart (h : Header) (_ : Unit) (s : State) : State :=
  let t := done h .restart .none s
  { t with sys := { t.sys with restartPending := true } }

def handleRestart (h : Header) (b : Body Unit) (s : State) : State := command .restart h b groundSave (actRestart h) s

end Sys2Proof.Machine
end

