-- ==== Sys2Proof/Machine/Link.lean ====
section
/-! DEFINITION. The link controller (chapters 8 and 10): LINK_READY, the end of a transmission, the answer to an unknown kind, and the
actions of STATUS and SENDER_SET. -/

namespace Sys2Proof.Machine

/-! ## Transmissions (R141, R144, R186) -/

/-- Link ready takes a level (R141). -/
def putLinkReady (level : Bool) (s : State) : State :=
  { s with pins := { s.pins with linkReady := level }, out := beginTransmission level s.out }

/-- LINK_READY (R141). -/
def execLinkReady (level : Bool) (s : State) : Host.Outcome State Fault Refusal := .next (putLinkReady level s)

/-- The oldest message leaves the queue: congestion ends at the low mark (R141, R144). -/
def freeEntry (low : Nat) (o : Outbound) : Outbound :=
  let q := o.queue.drop 1
  { o with queue := q, transmitting := false, congested := o.congested && decide (low < q.length) }

/-- A transmission completes: the entry is freed; the RESTART reply's completion lets the restart take effect, otherwise the next
transmission may begin (R141, R185; log 18). -/
def endTransmission (s : State) : State :=
  let t : State := { s with out := freeEntry s.settings.low s.out }
  if t.sys.restartPending && t.out.queue.isEmpty then restartNow t
  else { t with out := beginTransmission t.pins.linkReady t.out }

/-! ## UNKNOWN_KIND (R171) -/

/-- A taken frame whose kind is not a command kind (R171, ground 1). -/
def handleUnknownKind (h : Header) (kind : Byte) (s : State) : State := reply h kind.toNat .unknownKind .none s

/-! ## STATUS (R160, R175, R176, R187) -/

/-- A sequence number of a ring, absent when the ring is empty. -/
def seqOf (g : Ring) (q : Nat) : Option Nat := if g.records.isEmpty then none else some q

/-- The report of a head (R175). -/
def headReport (s : State) (n : Head) : HeadReport where
  state := s.ports[n].state
  status := s.ports[n].status
  linkErrors := s.ports[n].linkErrors
  overruns := s.ports[n].overruns
  gaps := s.ports[n].gaps
  capacity := Config.capacity s.settings.plan n
  length := s.archive.rings[n].records.length
  oldest := seqOf s.archive.rings[n] (oldestSeq s.archive.rings[n])
  newest := seqOf s.archive.rings[n] (newestSeq s.archive.rings[n])
  counter := s.archive.rings[n].counter

/-- What pauses the dump in flight, the reply counted (R187). -/
def pauseOf (s : State) : PauseCondition :=
  match s.archive.dump with
  | none => .none
  | some d =>
    if Config.queueSize ≤ countWithReply s then .noFreeEntry
    else if congestedWithReply s then .congestion
    else if d.quiet && anyGathering s.occ then .quiet
    else .none

/-- The report of the part (R175). -/
def statusReport (s : State) : StatusReport where
  part := s.sys.part
  loadResult := s.sys.loadResult
  time := now s
  clock := s.clock.state
  tide := s.pages.tide
  count := countWithReply s
  congested := congestedWithReply s
  storeSlots := (parkedContexts s.occ).length
  live := (liveContexts s.occ).length
  framesDropped := s.link.framesDropped
  overflows := s.link.overflows
  noticesLost := s.out.noticesLost
  samplesDropped := s.out.samplesDropped
  heads := #v[headReport s 0, headReport s 1, headReport s 2, headReport s 3]
  dump := s.archive.dump
  pause := pauseOf s

/-- The counts that a STATUS reports are set to 0 (R176). -/
def clearCounts (s : State) : State :=
  { s with
    link := { s.link with framesDropped := 0, overflows := 0 }
    out := { s.out with noticesLost := 0, samplesDropped := 0 }
    ports := vmap (fun p => { p with linkErrors := 0, overruns := 0, gaps := 0 }) s.ports }

def actStatus (h : Header) (clear : Bool) (s : State) : State :=
  let t := done h .status (.status (statusReport s)) s
  if clear then clearCounts t else t

def handleStatus (h : Header) (b : Body Bool) (s : State) : State := command .status h b (fun _ _ => none) (actStatus h) s

/-! ## SENDER_SET (R174) -/

/-- The place of a sender's set: senders 1 to 3 alone have one. -/
def senderIndex (n : Nat) : Option (Fin 3) := if h : 1 ≤ n ∧ n ≤ 3 then some ⟨n - 1, by omega⟩ else none

def groundSenderSet (p : SenderSetParams) (_ : State) : Option Status :=
  if (senderIndex p.sender).isSome then none else some .badValue

/-- The settings after a SENDER_SET (R174). -/
def putSender (p : SenderSetParams) (t : Settings) : Settings :=
  match senderIndex p.sender, p.groups with
  | some k, some g => { t with senders := t.senders.set k g }
  | some _, none => t
  | none, _ => t

def actSenderSet (h : Header) (p : SenderSetParams) (s : State) : State :=
  let t := putSender p s.settings
  done h .senderSet (.senders (senderSets t)) { s with settings := t }

def handleSenderSet (h : Header) (b : Body SenderSetParams) (s : State) : State :=
  command .senderSet h b groundSenderSet (actSenderSet h) s

end Sys2Proof.Machine
end

