-- ==== Sys2Proof/Machine/Commands.lean ====
section
/-! DEFINITION. The command path (R168 to R170): what a taken frame does, the taking of frames from the intake, the survey link's
receiver, SURVEY_FRAME, TRANSMISSION_COMPLETE, and the meaning of each command row, which is the arrival of a valid frame that carries it (log 2). -/

namespace Sys2Proof.Machine

/-! ## Taking frames (R170) -/

/-- What a taken frame does (R171); steps that are no frames never stand in the intake. -/
def handleFrame (c : Instr) (s : State) : State :=
  match c with
  | .unknownKindCommand h kind => handleUnknownKind h kind s
  | .status h b => handleStatus h b s
  | .senderSet h b => handleSenderSet h b s
  | .save h b => handleSave h b s
  | .restart h b => handleRestart h b s
  | .headSetup h b => handleHeadSetup h b s
  | .setPlan h b => handleSetPlan h b s
  | .arbSet h b => handleArbSet h b s
  | .faultClear h b => handleFaultClear h b s
  | .evtSetup h b => handleEvtSetup h b s
  | .evtClear h b => handleEvtClear h b s
  | .groupSet h b => handleGroupSet h b s
  | .queueMarks h b => handleQueueMarks h b s
  | .streamSelect h b => handleStreamSelect h b s
  | .streamBatch h b => handleStreamBatch h b s
  | .calStage h b => handleCalStage h b s
  | .calCommit h b => handleCalCommit h b s
  | .calDiscard h b => handleCalDiscard h b s
  | .calRead h b => handleCalRead h b s
  | .setTime h b => handleSetTime h b s
  | .pageOpen h b => handlePageOpen h b s
  | .pageAdd h b => handlePageAdd h b s
  | .pageCommit h b => handlePageCommit h b s
  | .pageDrop h b => handlePageDrop h b s
  | .pageList h b => handlePageList h b s
  | .tideQuery h b => handleTideQuery h b s
  | .stnPut h b => handleStnPut h b s
  | .stnDelete h b => handleStnDelete h b s
  | .stnAge h b => handleStnAge h b s
  | .stnGet h b => handleStnGet h b s
  | .stnList h b => handleStnList h b s
  | .occOpen h b => handleOccOpen h b s
  | .occHold h b => handleOccHold h b s
  | .occRelease h b => handleOccRelease h b s
  | .occClose h b => handleOccClose h b s
  | .occAbort h b => handleOccAbort h b s
  | .occDefaults h b => handleOccDefaults h b s
  | .occQuery h b => handleOccQuery h b s
  | .occPark h b => handleOccPark h b s
  | .occUnpark h b => handleOccUnpark h b s
  | .occSwap h b => handleOccSwap h b s
  | .occClone h b => handleOccClone h b s
  | .dumpStart h b => handleDumpStart h b s
  | .dumpStop h b => handleDumpStop h b s
  | .headFrame _ _ | .silenceExpiry _ | .correctionComplete | .flushExpiry _ | .settleExpiry _ | .gatheringExpiry _
  | .limitExpiry _ | .readingJoin | .timeMark | .lossExpiry | .pageRetirement _ | .spanStart | .eventLineChange _ _
  | .eventDispatch | .surveyFrame _ | .linkReady _ | .transmissionComplete | .dumpBlock | .coldStart | .loadComplete
  | .saveComplete _ => s

/-- The frames left in the intake. -/
def setIntake (l : List Instr) (s : State) : State := { s with link := { s.link with intake := l } }

/-- The oldest frame of the intake is taken and handled whole, when an entry is free; what the event unit then has to dispatch
follows (R125, R170). -/
def takeFrame (s : State) : State :=
  match s.link.intake with
  | [] => s
  | c :: rest => if canTake s then drain (handleFrame c (setIntake rest s)) else s

/-- Frames are taken, as many as the intake can hold (R169, R170). -/
def takeFrames (s : State) : State := takeFrame (takeFrame (takeFrame (takeFrame s)))

/-- A valid frame arrives: the controller has taken what it could, the frame joins the intake, and the controller takes again
(R169, R170). -/
def receive (c : Instr) (s : State) : State := takeFrames (offerIntake c (takeFrames s))

/-! ## The entry that a transmission frees (R143, R170) -/

/-- The meaning of a step that is neither the arrival of frames nor a start nor the end of a transmission: such a step may be the
event of R143 that offers a message to the queue. The others are left out. -/
def eventMeaning (i : Instr) (s : State) : Host.Outcome State Fault Refusal :=
  match i with
  | .headFrame n bytes => execHeadFrame n bytes s
  | .silenceExpiry n => execSilenceExpiry n s
  | .correctionComplete => execCorrectionComplete s
  | .flushExpiry n => execFlushExpiry n s
  | .settleExpiry n => execSettleExpiry n s
  | .gatheringExpiry g => execGatheringExpiry g s
  | .limitExpiry n => execLimitExpiry n s
  | .readingJoin => execReadingJoin s
  | .timeMark => execTimeMark s
  | .lossExpiry => execLossExpiry s
  | .pageRetirement k => execPageRetirement k s
  | .spanStart => execSpanStart s
  | .eventLineChange line level => execEventLineChange line level s
  | .eventDispatch => execEventDispatch s
  | .linkReady level => execLinkReady level s
  | .dumpBlock => execDumpBlock s
  | .loadComplete => execLoadComplete s
  | .saveComplete written => execSaveComplete written s
  | .surveyFrame _ | .transmissionComplete | .coldStart => .next s
  | .unknownKindCommand _ _ | .status _ _ | .senderSet _ _ | .save _ _ | .restart _ _ | .headSetup _ _ | .setPlan _ _
  | .arbSet _ _ | .faultClear _ _ | .evtSetup _ _ | .evtClear _ _ | .groupSet _ _ | .queueMarks _ _ | .streamSelect _ _
  | .streamBatch _ _ | .calStage _ _ | .calCommit _ _ | .calDiscard _ _ | .calRead _ _ | .setTime _ _ | .pageOpen _ _
  | .pageAdd _ _ | .pageCommit _ _ | .pageDrop _ _ | .pageList _ _ | .tideQuery _ _ | .stnPut _ _ | .stnDelete _ _
  | .stnAge _ _ | .stnGet _ _ | .stnList _ _ | .occOpen _ _ | .occHold _ _ | .occRelease _ _ | .occClose _ _ | .occAbort _ _
  | .occDefaults _ _ | .occQuery _ _ | .occPark _ _ | .occUnpark _ _ | .occSwap _ _ | .occClone _ _ | .dumpStart _ _
  | .dumpStop _ _ => .next s

/-- The state that such a step leaves. -/
def afterEvent (i : Instr) (s : State) : State :=
  match eventMeaning i s with
  | .next t => t
  | .fault _ => s
  | .refused _ => s

/-- The step would bring a message into the queue as it stands. -/
def joinsMessage (i : Instr) (s : State) : Bool := decide (s.out.queue.length < (afterEvent i s).out.queue.length)

/-- An event that offers a message reaches the queue at this moment (R143): the next step of `pending` would bring one in. -/
def eventAtHand (s : State) : Bool :=
  match s.pending with
  | [] => false
  | i :: _ => joinsMessage i s

/-- A claimant of R143 that stands in the part itself: a reading that waits, or else a dump that waits for room. -/
def waitingRival (s : State) : Option Instr := [Instr.readingJoin, Instr.dumpBlock].find? fun i => joinsMessage i s

/-- The link controller looks for a frame to take as an entry becomes free, and again as each handling ends (R170), at most so many
times. With no other claimant of R143 at hand it takes the frame. With one at hand, which of the two is first is a free value (log
26): the controller takes the frame; or the entry is left to the event that comes next; or the waiting reading, or the dump's block,
joins at once, and the controller looks again. -/
def claimEntry : Nat → State → State
  | 0, s => s
  | k + 1, s =>
    if s.link.intake.isEmpty || !canTake s then s
    else
      let t : State := { s with choices := s.choices + 1 }
      match eventAtHand s, waitingRival s with
      | false, none => claimEntry k (takeFrame (drain s))
      | true, _ => if Config.controllerFirst s.choices then claimEntry k (takeFrame (drain t)) else t
      | false, some i => claimEntry k (if Config.controllerFirst s.choices then takeFrame (drain t) else afterEvent i t)

/-- TRANSMISSION_COMPLETE (R141). Readings that wait take an entry that is free already, before another becomes free (R98,
R116; log 5); the link controller takes a frame that waits for the one that becomes free, unless another claimant is first (R143,
R170; log 26). With no transmission in flight, nothing completes (log 3). -/
def execTransmissionComplete (s : State) : Host.Outcome State Fault Refusal :=
  .next (if s.out.transmitting then claimEntry Config.intakeSize (latchNext (endTransmission (offerReadings s))) else s)

/-! ## The receiver (R168) -/

def setLinkReceiver (r : Receiver) (s : State) : State := { s with link := { s.link with rx := r } }

/-- A frame was dropped, or a run of discarded bytes ended (R168). -/
def dropFrame (s : State) : State := { s with link := { s.link with framesDropped := satAdd s.link.framesDropped 1 } }

/-- The receiver hunts and collects in the bytes it holds, at most so many bytes or frames (R168); a run of discarded bytes before
the first frame after a start is counted like one between two frames (log 13). The length byte and the sender byte are tested with
the CRC, once all the bytes that the length byte announces are there (log 27). -/
def huntSurvey : Nat → State → State
  | 0, s => s
  | k + 1, s =>
    let r := s.link.rx
    match r.buf with
    | [] => s
    | b :: rest =>
      if b ≠ 0xA5#8 then
        huntSurvey k (setLinkReceiver { buf := rest, rescan := r.rescan - 1, junk := r.junk || r.rescan == 0 } s)
      else
        let s1 := if r.junk then dropFrame (setLinkReceiver { r with junk := false } s) else s
        match surveyFrameLength r.buf with
        | none => s1
        | some n =>
          if r.buf.length < n then s1
          else match decodeSurveyFrame (r.buf.take n) with
            | some c =>
              huntSurvey k (receive c (setLinkReceiver { buf := r.buf.drop n, rescan := r.rescan - n, junk := false } s1))
            | none =>
              huntSurvey k (dropFrame (setLinkReceiver { buf := rest, rescan := max (r.rescan - 1) (n - 1), junk := false } s1))

/-- Bytes arrive on the survey link. -/
def surveyBytes (bytes : List Byte) (s : State) : State :=
  let buf := s.link.rx.buf ++ bytes
  huntSurvey (buf.length + 1) (setLinkReceiver { s.link.rx with buf := buf } s)

/-- SURVEY_FRAME (R168). -/
def execSurveyFrame (bytes : List Byte) (s : State) : Host.Outcome State Fault Refusal := .next (surveyBytes bytes (drain s))

/-! ## The command rows: each finds the event unit's latch empty (R125) -/

/-- UNKNOWN_KIND_COMMAND (R171). -/
def execUnknownKindCommand (h : Header) (kind : Byte) (s : State) : Host.Outcome State Fault Refusal :=
  .next (receive (.unknownKindCommand h kind) (drain s))

/-- STATUS (R175). -/
def execStatus (h : Header) (b : Body Bool) (s : State) : Host.Outcome State Fault Refusal :=
  .next (receive (.status h b) (drain s))

/-- SENDER_SET (R174). -/
def execSenderSet (h : Header) (b : Body SenderSetParams) (s : State) : Host.Outcome State Fault Refusal :=
  .next (receive (.senderSet h b) (drain s))

/-- SAVE (R183). -/
def execSave (h : Header) (b : Body Unit) (s : State) : Host.Outcome State Fault Refusal :=
  .next (receive (.save h b) (drain s))

/-- RESTART (R185). -/
def execRestart (h : Header) (b : Body Unit) (s : State) : Host.Outcome State Fault Refusal :=
  .next (receive (.restart h b) (drain s))

/-- HEAD_SETUP (R4). -/
def execHeadSetup (h : Header) (b : Body HeadSetupParams) (s : State) : Host.Outcome State Fault Refusal :=
  .next (receive (.headSetup h b) (drain s))

/-- SET_PLAN (R11). -/
def execSetPlan (h : Header) (b : Body Nat) (s : State) : Host.Outcome State Fault Refusal :=
  .next (receive (.setPlan h b) (drain s))

/-- ARB_SET (R15). -/
def execArbSet (h : Header) (b : Body ArbSetParams) (s : State) : Host.Outcome State Fault Refusal :=
  .next (receive (.arbSet h b) (drain s))

/-- FAULT_CLEAR (R18). -/
def execFaultClear (h : Header) (b : Body FaultClearParams) (s : State) : Host.Outcome State Fault Refusal :=
  .next (receive (.faultClear h b) (drain s))

/-- EVT_SETUP (R129). -/
def execEvtSetup (h : Header) (b : Body (List EvtEntry)) (s : State) : Host.Outcome State Fault Refusal :=
  .next (receive (.evtSetup h b) (drain s))

/-- EVT_CLEAR (R130). -/
def execEvtClear (h : Header) (b : Body (BitVec 8)) (s : State) : Host.Outcome State Fault Refusal :=
  .next (receive (.evtClear h b) (drain s))

/-- GROUP_SET (R133). -/
def execGroupSet (h : Header) (b : Body GroupSetParams) (s : State) : Host.Outcome State Fault Refusal :=
  .next (receive (.groupSet h b) (drain s))

/-- QUEUE_MARKS (R145). -/
def execQueueMarks (h : Header) (b : Body (Option (Nat × Nat))) (s : State) : Host.Outcome State Fault Refusal :=
  .next (receive (.queueMarks h b) (drain s))

/-- STREAM_SELECT (R152). -/
def execStreamSelect (h : Header) (b : Body StreamSelectParams) (s : State) : Host.Outcome State Fault Refusal :=
  .next (receive (.streamSelect h b) (drain s))

/-- STREAM_BATCH (R155). -/
def execStreamBatch (h : Header) (b : Body (Option (Nat × Nat))) (s : State) : Host.Outcome State Fault Refusal :=
  .next (receive (.streamBatch h b) (drain s))

/-- CAL_STAGE (R22). -/
def execCalStage (h : Header) (b : Body CalStageParams) (s : State) : Host.Outcome State Fault Refusal :=
  .next (receive (.calStage h b) (drain s))

/-- CAL_COMMIT (R27). -/
def execCalCommit (h : Header) (b : Body Nat) (s : State) : Host.Outcome State Fault Refusal :=
  .next (receive (.calCommit h b) (drain s))

/-- CAL_DISCARD (R25). -/
def execCalDiscard (h : Header) (b : Body Nat) (s : State) : Host.Outcome State Fault Refusal :=
  .next (receive (.calDiscard h b) (drain s))

/-- CAL_READ (R28). -/
def execCalRead (h : Header) (b : Body CalReadParams) (s : State) : Host.Outcome State Fault Refusal :=
  .next (receive (.calRead h b) (drain s))

/-- SET_TIME (R40). -/
def execSetTime (h : Header) (b : Body Nat) (s : State) : Host.Outcome State Fault Refusal :=
  .next (receive (.setTime h b) (drain s))

/-- PAGE_OPEN (R46). -/
def execPageOpen (h : Header) (b : Body PageOpenParams) (s : State) : Host.Outcome State Fault Refusal :=
  .next (receive (.pageOpen h b) (drain s))

/-- PAGE_ADD (R47). -/
def execPageAdd (h : Header) (b : Body PageAddParams) (s : State) : Host.Outcome State Fault Refusal :=
  .next (receive (.pageAdd h b) (drain s))

/-- PAGE_COMMIT (R48). -/
def execPageCommit (h : Header) (b : Body Nat) (s : State) : Host.Outcome State Fault Refusal :=
  .next (receive (.pageCommit h b) (drain s))

/-- PAGE_DROP (R49). -/
def execPageDrop (h : Header) (b : Body Nat) (s : State) : Host.Outcome State Fault Refusal :=
  .next (receive (.pageDrop h b) (drain s))

/-- PAGE_LIST (R50). -/
def execPageList (h : Header) (b : Body (Option (Nat × Nat))) (s : State) : Host.Outcome State Fault Refusal :=
  .next (receive (.pageList h b) (drain s))

/-- TIDE_QUERY (R57). -/
def execTideQuery (h : Header) (b : Body TideQueryParams) (s : State) : Host.Outcome State Fault Refusal :=
  .next (receive (.tideQuery h b) (drain s))

/-- STN_PUT (R64). -/
def execStnPut (h : Header) (b : Body StnPutParams) (s : State) : Host.Outcome State Fault Refusal :=
  .next (receive (.stnPut h b) (drain s))

/-- STN_DELETE (R66). -/
def execStnDelete (h : Header) (b : Body Nat) (s : State) : Host.Outcome State Fault Refusal :=
  .next (receive (.stnDelete h b) (drain s))

/-- STN_AGE (R71). -/
def execStnAge (h : Header) (b : Body Unit) (s : State) : Host.Outcome State Fault Refusal :=
  .next (receive (.stnAge h b) (drain s))

/-- STN_GET (R67). -/
def execStnGet (h : Header) (b : Body Nat) (s : State) : Host.Outcome State Fault Refusal :=
  .next (receive (.stnGet h b) (drain s))

/-- STN_LIST (R68). -/
def execStnList (h : Header) (b : Body StnListParams) (s : State) : Host.Outcome State Fault Refusal :=
  .next (receive (.stnList h b) (drain s))

/-- OCC_OPEN (R80). -/
def execOccOpen (h : Header) (b : Body OccOpenParams) (s : State) : Host.Outcome State Fault Refusal :=
  .next (receive (.occOpen h b) (drain s))

/-- OCC_HOLD (R91). -/
def execOccHold (h : Header) (b : Body Nat) (s : State) : Host.Outcome State Fault Refusal :=
  .next (receive (.occHold h b) (drain s))

/-- OCC_RELEASE (R93). -/
def execOccRelease (h : Header) (b : Body Nat) (s : State) : Host.Outcome State Fault Refusal :=
  .next (receive (.occRelease h b) (drain s))

/-- OCC_CLOSE (R97). -/
def execOccClose (h : Header) (b : Body Nat) (s : State) : Host.Outcome State Fault Refusal :=
  .next (receive (.occClose h b) (drain s))

/-- OCC_ABORT (R100). -/
def execOccAbort (h : Header) (b : Body Nat) (s : State) : Host.Outcome State Fault Refusal :=
  .next (receive (.occAbort h b) (drain s))

/-- OCC_DEFAULTS (R75). -/
def execOccDefaults (h : Header) (b : Body Policy) (s : State) : Host.Outcome State Fault Refusal :=
  .next (receive (.occDefaults h b) (drain s))

/-- OCC_QUERY (R103). -/
def execOccQuery (h : Header) (b : Body (Option Nat)) (s : State) : Host.Outcome State Fault Refusal :=
  .next (receive (.occQuery h b) (drain s))

/-- OCC_PARK (R108). -/
def execOccPark (h : Header) (b : Body Nat) (s : State) : Host.Outcome State Fault Refusal :=
  .next (receive (.occPark h b) (drain s))

/-- OCC_UNPARK (R111). -/
def execOccUnpark (h : Header) (b : Body Nat) (s : State) : Host.Outcome State Fault Refusal :=
  .next (receive (.occUnpark h b) (drain s))

/-- OCC_SWAP (R113). -/
def execOccSwap (h : Header) (b : Body OccSwapParams) (s : State) : Host.Outcome State Fault Refusal :=
  .next (receive (.occSwap h b) (drain s))

/-- OCC_CLONE (R115). -/
def execOccClone (h : Header) (b : Body OccCloneParams) (s : State) : Host.Outcome State Fault Refusal :=
  .next (receive (.occClone h b) (drain s))

/-- DUMP_START (R161). -/
def execDumpStart (h : Header) (b : Body DumpStartParams) (s : State) : Host.Outcome State Fault Refusal :=
  .next (receive (.dumpStart h b) (drain s))

/-- DUMP_STOP (R166). -/
def execDumpStop (h : Header) (b : Body Unit) (s : State) : Host.Outcome State Fault Refusal :=
  .next (receive (.dumpStop h b) (drain s))

end Sys2Proof.Machine
end

