-- ==== Sys2Proof/Machine/Dispatch.lean ====
section
/-! DEFINITION. One arm per step of the opcode table, in its order. -/

namespace Sys2Proof.Machine

def exec (i : Instr) (s : State) : Host.Outcome State Fault Refusal :=
  match i with
  | .headFrame n bytes => Sys2Proof.Machine.execHeadFrame n bytes s
  | .silenceExpiry n => Sys2Proof.Machine.execSilenceExpiry n s
  | .correctionComplete => Sys2Proof.Machine.execCorrectionComplete s
  | .flushExpiry n => Sys2Proof.Machine.execFlushExpiry n s
  | .settleExpiry n => Sys2Proof.Machine.execSettleExpiry n s
  | .gatheringExpiry g => Sys2Proof.Machine.execGatheringExpiry g s
  | .limitExpiry n => Sys2Proof.Machine.execLimitExpiry n s
  | .readingJoin => Sys2Proof.Machine.execReadingJoin s
  | .timeMark => Sys2Proof.Machine.execTimeMark s
  | .lossExpiry => Sys2Proof.Machine.execLossExpiry s
  | .pageRetirement k => Sys2Proof.Machine.execPageRetirement k s
  | .spanStart => Sys2Proof.Machine.execSpanStart s
  | .eventLineChange line level => Sys2Proof.Machine.execEventLineChange line level s
  | .eventDispatch => Sys2Proof.Machine.execEventDispatch s
  | .surveyFrame bytes => Sys2Proof.Machine.execSurveyFrame bytes s
  | .linkReady level => Sys2Proof.Machine.execLinkReady level s
  | .transmissionComplete => Sys2Proof.Machine.execTransmissionComplete s
  | .dumpBlock => Sys2Proof.Machine.execDumpBlock s
  | .coldStart => Sys2Proof.Machine.execColdStart s
  | .loadComplete => Sys2Proof.Machine.execLoadComplete s
  | .saveComplete written => Sys2Proof.Machine.execSaveComplete written s
  | .unknownKindCommand h kind => Sys2Proof.Machine.execUnknownKindCommand h kind s
  | .status h b => Sys2Proof.Machine.execStatus h b s
  | .senderSet h b => Sys2Proof.Machine.execSenderSet h b s
  | .save h b => Sys2Proof.Machine.execSave h b s
  | .restart h b => Sys2Proof.Machine.execRestart h b s
  | .headSetup h b => Sys2Proof.Machine.execHeadSetup h b s
  | .setPlan h b => Sys2Proof.Machine.execSetPlan h b s
  | .arbSet h b => Sys2Proof.Machine.execArbSet h b s
  | .faultClear h b => Sys2Proof.Machine.execFaultClear h b s
  | .evtSetup h b => Sys2Proof.Machine.execEvtSetup h b s
  | .evtClear h b => Sys2Proof.Machine.execEvtClear h b s
  | .groupSet h b => Sys2Proof.Machine.execGroupSet h b s
  | .queueMarks h b => Sys2Proof.Machine.execQueueMarks h b s
  | .streamSelect h b => Sys2Proof.Machine.execStreamSelect h b s
  | .streamBatch h b => Sys2Proof.Machine.execStreamBatch h b s
  | .calStage h b => Sys2Proof.Machine.execCalStage h b s
  | .calCommit h b => Sys2Proof.Machine.execCalCommit h b s
  | .calDiscard h b => Sys2Proof.Machine.execCalDiscard h b s
  | .calRead h b => Sys2Proof.Machine.execCalRead h b s
  | .setTime h b => Sys2Proof.Machine.execSetTime h b s
  | .pageOpen h b => Sys2Proof.Machine.execPageOpen h b s
  | .pageAdd h b => Sys2Proof.Machine.execPageAdd h b s
  | .pageCommit h b => Sys2Proof.Machine.execPageCommit h b s
  | .pageDrop h b => Sys2Proof.Machine.execPageDrop h b s
  | .pageList h b => Sys2Proof.Machine.execPageList h b s
  | .tideQuery h b => Sys2Proof.Machine.execTideQuery h b s
  | .stnPut h b => Sys2Proof.Machine.execStnPut h b s
  | .stnDelete h b => Sys2Proof.Machine.execStnDelete h b s
  | .stnAge h b => Sys2Proof.Machine.execStnAge h b s
  | .stnGet h b => Sys2Proof.Machine.execStnGet h b s
  | .stnList h b => Sys2Proof.Machine.execStnList h b s
  | .occOpen h b => Sys2Proof.Machine.execOccOpen h b s
  | .occHold h b => Sys2Proof.Machine.execOccHold h b s
  | .occRelease h b => Sys2Proof.Machine.execOccRelease h b s
  | .occClose h b => Sys2Proof.Machine.execOccClose h b s
  | .occAbort h b => Sys2Proof.Machine.execOccAbort h b s
  | .occDefaults h b => Sys2Proof.Machine.execOccDefaults h b s
  | .occQuery h b => Sys2Proof.Machine.execOccQuery h b s
  | .occPark h b => Sys2Proof.Machine.execOccPark h b s
  | .occUnpark h b => Sys2Proof.Machine.execOccUnpark h b s
  | .occSwap h b => Sys2Proof.Machine.execOccSwap h b s
  | .occClone h b => Sys2Proof.Machine.execOccClone h b s
  | .dumpStart h b => Sys2Proof.Machine.execDumpStart h b s
  | .dumpStop h b => Sys2Proof.Machine.execDumpStop h b s

end Sys2Proof.Machine
end

