-- ==== Sys2Proof/Machine/Step.lean ====
section
/-! DEFINITION. One step of the machine: the oldest waiting step of `pending`; and, when none waits, what the part does by itself:
what is due now, one thing at a time in a fixed order, and otherwise the passing of one millisecond (log 1). -/

namespace Sys2Proof.Machine

/-- A candidate for the part's own next step, and whether it is due. -/
structure Candidate where
  isDue : Bool
  what : Instr

/-- The part's own steps in the order in which an idle part takes those that are due (log 1). -/
def candidates (s : State) : List Candidate :=
  [⟨s.events.latch.isSome || (nextSource s).isSome, .eventDispatch⟩] ++
    (heads.map fun n => ⟨silenceDue (now s) s.ports[n], .silenceExpiry n⟩) ++
    [⟨due (now s) (lossTimer s), .lossExpiry⟩] ++
    (heads.map fun n => ⟨due (now s) (settleTimer s n), .settleExpiry n⟩) ++
    (heads.map fun n => ⟨due (now s) (limitTimer s n), .limitExpiry n⟩) ++
    ([0, 1].map fun g => ⟨due (now s) s.groups[g].timer, .gatheringExpiry g⟩) ++
    (heads.map fun n => ⟨due (now s) s.batches[n].expiry, .flushExpiry n⟩) ++
    (pageSlots.map fun k => ⟨clockRuns s && (endedPage k s).isSome, .pageRetirement k⟩) ++
    [⟨spanStarted s, .spanStart⟩, ⟨hasEntry s && !s.occ.waiting.isEmpty, .readingJoin⟩]

/-- The part's own step that is due, if any. -/
def dueAction (s : State) : Option Instr := ((candidates s).find? fun c => c.isDue).map fun c => c.what

/-- One millisecond of the part's own time base (R39): the survey time stays at its greatest value. -/
def tick (s : State) : State := { s with clock := { s.clock with time := min (s.clock.time + 1) Config.maxTime } }

/-- What an idle part does (log 1): a step of its own that is due, the taking of a waiting frame (R170), a dump block (R163), or a
millisecond. -/
def idle (s : State) : Host.Outcome State Fault Refusal :=
  match dueAction s with
  | some i => exec i s
  | none =>
    if canTake s && !s.link.intake.isEmpty then .next (takeFrame s)
    else if dumpReady s then exec .dumpBlock s
    else .next (tick s)

/-- One step: the step in front of the queue, on the state with the queue's rest, or what an idle part does. -/
def step (s : State) : Host.Outcome State Fault Refusal :=
  match s.pending with
  | [] => idle s
  | c :: rest => exec c { s with pending := rest }

/-- The state with the command that a table word spells in front of its queue; unchanged where the word spells none, as every
word of this table does (log 20). -/
def State.withFetchWord (s : State) (nbits w : Nat) : State :=
  match decodeTableWord nbits w with
  | some c => { s with pending := c :: s.pending }
  | none => s

end Sys2Proof.Machine
end

