-- ==== Sys2Proof/Safety.lean ====
section
/-! DEFINITION. The words the statements are made of: when a command is taken and answered at once, a message that joins, and the
laws of the part (R10, R45, R48, R59, R62, R74, R80, R88, R132, R140, R157, R169) as invariants of the state. -/

namespace Sys2Proof.Machine

/-! ## When messages join and commands are taken -/

/-- The event unit has nothing latched and nothing to latch (R125). -/
def Quiet (s : State) : Prop := s.events.latch = none ∧ nextSource s = none

/-- k more messages find free entries, and their joining begins no congestion (R142, R144). -/
def RoomFor (k : Nat) (s : State) : Prop :=
  s.out.queue.length + k ≤ Config.queueSize ∧ (s.out.congested = true ∨ s.out.queue.length + k < s.settings.high)

/-- The link controller takes a frame as it arrives: nothing waits in the intake, no RESTART is pending (R170, R185). -/
def Attentive (s : State) : Prop := s.link.intake = [] ∧ s.sys.restartPending = false ∧ Quiet s ∧ RoomFor 1 s

/-- A command of the kind from the sender passes grounds 1 to 3 of R171 as it arrives, and its reply begins no congestion. -/
def Taken (k : Kind) (h : Header) (s : State) : Prop :=
  Attentive s ∧ s.sys.part = .ready ∧ permitted s.settings h.sender k = true

/-- The state with a message at the tail of the outbound queue. -/
def told (m : Message) (s : State) : State := { s with out := pushMessage s.settings.high s.pins.linkReady m s.out }

/-- The state with the reply to a command at the tail of the outbound queue (R171). -/
def answered (h : Header) (k : Kind) (st : Status) (d : ReplyData) (s : State) : State := told (.reply h k.code st d) s

/-- The state with a notice of now at the tail of the outbound queue (R148). -/
def noted (n : Notice) (s : State) : State := told (.notice (now s) n) s

/-- A notice is lost when no entry is free: it is counted (R146). -/
def lost (s : State) : State := { s with out := { s.out with noticesLost := min (s.out.noticesLost + 1) 65535 } }

/-! ## Frames as R171 sees them -/

/-- The body does not have the form of its kind (R171, ground 4). -/
def Body.malformedForm {α : Type} (b : Body α) : Bool :=
  match b with
  | .ok _ => false
  | .malformed => true

/-- Header, and whether the body is malformed, of a command row. -/
def commandForm (i : Instr) : Option (Header × Bool) :=
  match i with
  | .status h b => some (h, Body.malformedForm b)
  | .senderSet h b => some (h, Body.malformedForm b)
  | .save h b => some (h, Body.malformedForm b)
  | .restart h b => some (h, Body.malformedForm b)
  | .headSetup h b => some (h, Body.malformedForm b)
  | .setPlan h b => some (h, Body.malformedForm b)
  | .arbSet h b => some (h, Body.malformedForm b)
  | .faultClear h b => some (h, Body.malformedForm b)
  | .evtSetup h b => some (h, Body.malformedForm b)
  | .evtClear h b => some (h, Body.malformedForm b)
  | .groupSet h b => some (h, Body.malformedForm b)
  | .queueMarks h b => some (h, Body.malformedForm b)
  | .streamSelect h b => some (h, Body.malformedForm b)
  | .streamBatch h b => some (h, Body.malformedForm b)
  | .calStage h b => some (h, Body.malformedForm b)
  | .calCommit h b => some (h, Body.malformedForm b)
  | .calDiscard h b => some (h, Body.malformedForm b)
  | .calRead h b => some (h, Body.malformedForm b)
  | .setTime h b => some (h, Body.malformedForm b)
  | .pageOpen h b => some (h, Body.malformedForm b)
  | .pageAdd h b => some (h, Body.malformedForm b)
  | .pageCommit h b => some (h, Body.malformedForm b)
  | .pageDrop h b => some (h, Body.malformedForm b)
  | .pageList h b => some (h, Body.malformedForm b)
  | .tideQuery h b => some (h, Body.malformedForm b)
  | .stnPut h b => some (h, Body.malformedForm b)
  | .stnDelete h b => some (h, Body.malformedForm b)
  | .stnAge h b => some (h, Body.malformedForm b)
  | .stnGet h b => some (h, Body.malformedForm b)
  | .stnList h b => some (h, Body.malformedForm b)
  | .occOpen h b => some (h, Body.malformedForm b)
  | .occHold h b => some (h, Body.malformedForm b)
  | .occRelease h b => some (h, Body.malformedForm b)
  | .occClose h b => some (h, Body.malformedForm b)
  | .occAbort h b => some (h, Body.malformedForm b)
  | .occDefaults h b => some (h, Body.malformedForm b)
  | .occQuery h b => some (h, Body.malformedForm b)
  | .occPark h b => some (h, Body.malformedForm b)
  | .occUnpark h b => some (h, Body.malformedForm b)
  | .occSwap h b => some (h, Body.malformedForm b)
  | .occClone h b => some (h, Body.malformedForm b)
  | .dumpStart h b => some (h, Body.malformedForm b)
  | .dumpStop h b => some (h, Body.malformedForm b)
  | .headFrame _ _ | .silenceExpiry _ | .correctionComplete | .flushExpiry _ | .settleExpiry _ | .gatheringExpiry _
  | .limitExpiry _ | .readingJoin | .timeMark | .lossExpiry | .pageRetirement _ | .spanStart | .eventLineChange _ _
  | .eventDispatch | .surveyFrame _ | .linkReady _ | .transmissionComplete | .dumpBlock | .coldStart | .loadComplete
  | .saveComplete _ | .unknownKindCommand _ _ => none

/-! ## Laws of the part -/

/-- The queue never holds more than 48 messages, and the intake never more than four frames (R140, R169). -/
def QueueLaw (s : State) : Prop := s.out.queue.length ≤ 48 ∧ s.link.intake.length ≤ 4

/-- No two READY pages have overlapping spans (R48). -/
def PageLaw (s : State) : Prop :=
  ∀ j k : PageSlotId, j ≠ k → ∀ p q : Page, s.pages.slots[j] = .ready p → s.pages.slots[k] = .ready q → pagesOverlap p q = false

/-- One bucket of the station table: every record belongs there, no two of one number, and nothing is chained behind an empty
primary place (R59). -/
def BucketLaw (k : Fin 64) (b : Bucket) : Prop :=
  (∀ r ∈ bucketRecords b, r.number % 64 = k.val) ∧ ((bucketRecords b).map fun r => r.number).Nodup ∧
    (b.primary = none → b.chain = [])

/-- The law of the station table (R59): the law of every bucket, and 64 overflow entries in all, free or chained. -/
def TableLaw (t : StationTable) : Prop :=
  (∀ k : Fin 64, BucketLaw k t.buckets[k]) ∧ t.free + chained t = 64

/-- A context stands in the slot of its own head and is not PARKED there; the store holds PARKED contexts alone (R74, R105). -/
def SlotLaw (o : Occupations) : Prop :=
  (∀ n : Head, ∀ c : Context, o.active[n] = some c → c.head = n ∧ c.state ≠ .parked) ∧
    ∀ k : StoreSlotId, ∀ c : Context, o.store[k] = some c → c.state = .parked

/-- No two active contexts carry one tag (R80). -/
def ActiveTagsDistinct (o : Occupations) : Prop :=
  ∀ n m : Head, ∀ c d : Context, o.active[n] = some c → o.active[m] = some d → c.tag = d.tag → n = m

/-- What the blocks can hold: partitions and rings within their heads' shares of the plan in force (R10, R157), and every count that
saturates at 65,535 (R1, R5, R10, R146, R168, R169); while the part is STARTING the heads are OFF and nothing is held (R19, R181). -/
def CapacityLaw (s : State) : Prop :=
  (∀ n : Head, s.partitions[n].length ≤ Config.share s.settings.plan n ∧
      s.archive.rings[n].records.length ≤ Config.capacity s.settings.plan n ∧ s.ports[n].linkErrors ≤ 65535 ∧
      s.ports[n].overruns ≤ 65535 ∧ s.ports[n].gaps ≤ 65535) ∧
    s.out.noticesLost ≤ 65535 ∧ s.out.samplesDropped ≤ 65535 ∧ s.link.framesDropped ≤ 65535 ∧ s.link.overflows ≤ 65535 ∧
    (s.sys.part = .starting → s.corr.inFlight = none ∧
      ∀ n : Head, s.ports[n].state = .off ∧ s.partitions[n] = [] ∧ s.archive.rings[n].records = [])

/-- A head's ring holds records of that head alone, under consecutive sequence numbers that end one below the counter, modulo 2^32
(R157). -/
def RingLaw (s : State) : Prop :=
  ∀ n : Head, s.archive.rings[n].counter < 4294967296 ∧
    ∀ (k : Nat) (r : SampleRecord), s.archive.rings[n].records[k]? = some r →
      r.head = n ∧ r.seq < 4294967296 ∧
        (r.seq + (s.archive.rings[n].records.length - k)) % 4294967296 = s.archive.rings[n].counter

/-- No two slots hold pages of one number, FILLING or READY (R45). -/
def PageNumbersDistinct (s : State) : Prop :=
  ∀ (j k : PageSlotId) (p q : Page), slotPage s.pages.slots[j] = some p → slotPage s.pages.slots[k] = some q →
    p.number = q.number → j = k

/-- No two live contexts, active or parked, carry one tag (R80, R105). -/
def LiveTagsDistinct (o : Occupations) : Prop := ((liveContexts o).map fun x => x.2.tag).Nodup

/-- A live context has accepted at most its target count of samples, and fewer unless it is COMPLETE (R88); a target count is at
least 10 (R75). -/
def TargetLaw (o : Occupations) : Prop :=
  ∀ x ∈ liveContexts o, 10 ≤ x.2.policy.target ∧ x.2.acc.accepted ≤ x.2.policy.target ∧
    ((∀ w, x.2.state ≠ .complete w) → x.2.acc.accepted < x.2.policy.target)

/-- A station record's reference count is the number of live contexts that name it, and every live context's station has a record
(R62). -/
def RefsLaw (s : State) : Prop :=
  (∀ r ∈ allRecords s.table, r.refs = ((liveContexts s.occ).filter fun x => x.2.station == r.number).length) ∧
    ∀ x ∈ liveContexts s.occ, (findStation s.table x.2.station).isSome

/-- An arrival list holds the tags of the WAITING contexts of its group, each once, fewer than the group's target; the gathering timer
runs exactly while it holds one; a WAITING context has a group (R132, R134, R137). While the part is STARTING no context is
active (R104). -/
def ArrivalLaw (s : State) : Prop :=
  (∀ g : Group,
      (∀ tag : Nat, tag ∈ s.groups[g].arrivals ↔
        ∃ (n : Head) (c : Context), s.occ.active[n] = some c ∧ c.tag = tag ∧ c.group = some g ∧ c.state = .waiting) ∧
      s.groups[g].arrivals.Nodup ∧ s.groups[g].arrivals.length < s.settings.groups[g].target ∧
      (2 ≤ s.settings.groups[g].target ∧ s.settings.groups[g].target ≤ 4) ∧
      (s.groups[g].timer = none ↔ s.groups[g].arrivals = [])) ∧
    (∀ (n : Head) (c : Context), s.occ.active[n] = some c → c.state = .waiting → c.group.isSome) ∧
    (s.sys.part = .starting → ∀ n : Head, s.occ.active[n] = none)

/-- z is x rounded to an integer, a value halfway away from zero (section 2.4, R101). -/
def Rounded (x : ℝ) (z : Int) : Prop := |x - z| ≤ 1 / 2 ∧ (|x - z| = 1 / 2 → |x| ≤ |(z : ℝ)|)

/-- Every block but the part's own state, the clock and the tide state stands at the values its chapter gives for a start (R181:
R19, R21, R32, R45, R73, R104, R119, R131, R139, R156, R167, R179). The factory settings stand during the load (log 6), nothing is
recorded on the line (log 7), head receivers are empty (log 19) and the re-arm flags are clear (log 25). -/
def AtStart (s : State) : Prop :=
  s.settings = Config.factory ∧
    (∀ k : PageSlotId, s.pages.slots[k] = .empty) ∧
    (∀ n : Head, s.ports[n] =
        { state := .off, expected := none, anchor := none, restartMark := false, firstMark := false, status := 0#5,
          linkErrors := 0, overruns := 0, gaps := 0, rx := { buf := [], rescan := 0, junk := false } } ∧
      s.partitions[n] = [] ∧ s.cal.staged[n] = none ∧ s.cal.lag[n] = none ∧ s.occ.active[n] = none ∧
      s.batches[n] = { records := [], expiry := none } ∧ s.archive.rings[n] = { records := [], counter := 0 }) ∧
    s.corr = { last := none, service := 0, inFlight := none } ∧
    (∀ b : Fin 64, s.table.buckets[b] = { primary := none, chain := [] }) ∧ s.table.free = 64 ∧
    (∀ k : StoreSlotId, s.occ.store[k] = none) ∧ s.occ.waiting = [] ∧
    (∀ g : Group, s.groups[g] = { arrivals := [], timer := none, run := 0 }) ∧
    s.events = { pending := 0#8, rearm := 0#4, level := s.pins.lines, latch := none } ∧
    s.out = { queue := [], congested := false, transmitting := false, lineOut := [], noticesLost := 0, samplesDropped := 0 } ∧
    s.archive.dump = none ∧
    s.link = { intake := [], rx := { buf := [], rescan := 0, junk := false }, framesDropped := 0, overflows := 0 }

end Sys2Proof.Machine
end

