-- ==== Sys2Proof/Certificates/Slice0/Obligations.lean ====
section
/-! DEFINITION. The statements for the provers, each with the rules it formalises. In all of them `Attentive`, `Taken`, `Quiet` and
`RoomFor` (Safety.lean) say when a command is taken as it arrives and when messages join without beginning congestion; what
`exec` answers is always the NEXT state, written out, so a statement of a result is a statement of completion and of the frame. -/

open Sys2Proof Sys2Proof.Machine

/-! ## The machine as a whole -/

/-- A step takes the command at the front of the queue (the interface of a block). -/
def Obligations.StepRunsTheFrontCommand : Prop :=
  (∀ (c : Instr) (s : State), step { s with pending := c :: s.pending } = exec c s) ∧
    ∀ (c : Instr) (rest : List Instr) (s : State), s.pending = c :: rest → step s = exec c { s with pending := rest }

/-- On an empty queue the part takes a step of its own that is due, and otherwise, with no frame waiting and no dump, one millisecond
of its time base passes, up to the greatest survey time (R39). That an empty queue means this is the model's choice (log 1). -/
def Obligations.IdlePartTakesDueStepsElseAMillisecond : Prop :=
  (∀ (s : State) (i : Instr), s.pending = [] → dueAction s = some i → step s = exec i s) ∧
    ∀ s : State, s.pending = [] → dueAction s = none → s.link.intake = [] → s.archive.dump = none →
      step s = .next { s with clock := { s.clock with time := min (s.clock.time + 1) 281474976710655 } }

/-- No step stops the part: every step answers a next state (scope; Fault has no constructor). -/
def Obligations.EveryStepAnswersNext : Prop :=
  (∀ s : State, ∃ t, step s = .next t) ∧ ∀ (i : Instr) (s : State), ∃ t, exec i s = .next t

/-- The state after reset: a cold start has begun (R39, R181); the settings that stand are the factory values (R180; log 6). The
image, the pins and the line's empty record are the model's choice (log 7), so are the empty head receivers (log 19) and the clear
re-arm flags (log 25). -/
def Obligations.ResetHasBegunAColdStart : Prop :=
  State.reset.pending = [] ∧ State.reset.sys.part = .starting ∧ State.reset.sys.startKind = .cold ∧
    State.reset.sys.loadResult = .storeDefaulted ∧ State.reset.sys.restartPending = false ∧ State.reset.sys.saving = none ∧
    State.reset.clock = { time := 0, state := .unset } ∧ State.reset.pages.tide = .noTime ∧ AtStart State.reset ∧
    State.reset.settings.plan = 0 ∧ State.reset.settings.arbMode = .rotating ∧ State.reset.settings.arbLimit = 8 ∧
    State.reset.settings.high = 36 ∧ State.reset.settings.low = 18 ∧ State.reset.settings.threshold = 8 ∧
    State.reset.settings.flush = 1000 ∧ (∀ k : Fin 3, State.reset.settings.senders[k] = 0#7) ∧
    ∀ n : Head, State.reset.settings.heads[n] = { enable := true, latency := 0, silence := 5, notify := 0x1F#5, halt := 0#5 } ∧
      State.reset.settings.cal[n].version = 1

/-- The laws hold in the state after reset. -/
def Obligations.LawsHoldAtReset : Prop :=
  QueueLaw State.reset ∧ PageLaw State.reset ∧ TableLaw State.reset.table ∧ SlotLaw State.reset.occ ∧ CapacityLaw State.reset ∧
    RingLaw State.reset ∧ PageNumbersDistinct State.reset ∧ LiveTagsDistinct State.reset.occ ∧ ArrivalLaw State.reset ∧
    TargetLaw State.reset.occ ∧ RefsLaw State.reset

/-- The outbound queue never holds more than 48 messages (R140), nor the intake more than four frames (R169), after any step. -/
def Obligations.StepKeepsQueueLaw : Prop := ∀ s t : State, QueueLaw s → step s = .next t → QueueLaw t

/-- No two READY pages have overlapping spans after any step (R48), and no two slots hold one page number (R45, R46). -/
def Obligations.StepKeepsPageLaw : Prop :=
  (∀ s t : State, PageLaw s → step s = .next t → PageLaw t) ∧
    ∀ s t : State, PageNumbersDistinct s → step s = .next t → PageNumbersDistinct t

/-- The law of the station table after any step (R59): every record in the bucket of its number, no two of one number, no chain
behind an empty primary place, 64 overflow entries in all. -/
def Obligations.StepKeepsTableLaw : Prop := ∀ s t : State, TableLaw s.table → step s = .next t → TableLaw t.table

/-- A context stands in the slot of its own head, and the store holds PARKED contexts alone, after any step (R74, R105); and no two
live contexts carry one tag (R80, R105, R115). -/
def Obligations.StepKeepsSlotLaw : Prop :=
  (∀ s t : State, SlotLaw s.occ → step s = .next t → SlotLaw t.occ) ∧
    ∀ s t : State, LiveTagsDistinct s.occ → step s = .next t → LiveTagsDistinct t.occ

/-- Partitions and rings stay within their heads' shares of the plan in force, and saturating counts within their bounds, after any
step (R1, R5, R10, R146, R157, R168, R169); and every ring holds its own head's records under consecutive sequence numbers that end
one below its counter (R157). -/
def Obligations.StepKeepsCapacityLaw : Prop :=
  (∀ s t : State, CapacityLaw s → step s = .next t → CapacityLaw t) ∧
    ∀ s t : State, RingLaw s → step s = .next t → RingLaw t

/-! ## Steps that are not due -/

/-- A step of the part's own that is not due changes nothing (the model's reading, log 3). -/
def Obligations.StepsNotDueChangeNothing : Prop :=
  ∀ s : State, Quiet s →
    (∀ n : Head, (∀ e, s.ports[n].state = .live e → (s.clock.time : Int) < e) → exec (.silenceExpiry n) s = .next s) ∧
    (s.corr.inFlight = none → exec .correctionComplete s = .next s) ∧
    (∀ n : Head, (∀ e, s.batches[n].expiry = some e → (s.clock.time : Int) < e) → exec (.flushExpiry n) s = .next s) ∧
    (∀ n : Head, (∀ c e, s.occ.active[n] = some c → c.state = .settling e → (s.clock.time : Int) < e) →
      exec (.settleExpiry n) s = .next s) ∧
    (∀ n : Head, (∀ c b e, s.occ.active[n] = some c → c.state = .running b (some e) → (s.clock.time : Int) < e) →
      exec (.limitExpiry n) s = .next s) ∧
    (∀ g : Group, (∀ e, s.groups[g].timer = some e → (s.clock.time : Int) < e) → exec (.gatheringExpiry g) s = .next s) ∧
    (s.occ.waiting = [] → exec .readingJoin s = .next s) ∧
    ((∀ e, s.clock.state = .locked e → (s.clock.time : Int) < e) → exec .lossExpiry s = .next s) ∧
    (∀ k : PageSlotId, (∀ p, s.pages.slots[k] = .ready p → s.clock.state = .unset ∨ s.clock.time < p.start + 1000 * p.length) →
      exec (.pageRetirement k) s = .next s) ∧
    (s.pages.tide ≠ .lapsed → exec .spanStart s = .next s) ∧
    exec .eventDispatch s = .next s ∧
    (s.out.transmitting = false → exec .transmissionComplete s = .next s) ∧
    (s.archive.dump = none → exec .dumpBlock s = .next s) ∧
    (s.sys.part = .ready → exec .loadComplete s = .next s) ∧
    (s.sys.saving = none → ∀ w, exec (.saveComplete w) s = .next s)

/-! ## Starts, SAVE and RESTART (chapter 11) -/

/-- COLD_START: the load begins, the clock is at 0 and UNSET, every block stands at its start values, the last observed levels are
those on the lines, and a SAVE in flight leaves an unusable image (R181, R39, R51, R131, R184). The model's own: the factory
settings stand during the load (log 6), the pins are kept and nothing is recorded on the line (log 7), the check word of an
interrupted write is the complement of the matching one and the items stay (log 14), head receivers are emptied (log 19), and the
re-arm flags are clear (log 25). -/
def Obligations.ColdStartSetsEveryBlock : Prop :=
  ∀ s : State, ∃ t, exec .coldStart s = .next t ∧ AtStart t ∧ t.pins = s.pins ∧ t.pending = s.pending ∧
    t.clock = { time := 0, state := .unset } ∧ t.pages.tide = .noTime ∧
    t.sys =
      { part := .starting
        startKind := .cold
        loadResult := .storeDefaulted
        restartPending := false
        saving := none
        image := if s.sys.saving.isSome then { s.sys.image with check := ~~~imageCheck s.sys.image.items } else s.sys.image } ∧
    (s.sys.saving.isSome → imageUsable t.sys.image = false)

/-- LOAD_COMPLETE: a usable image gives the settings, an unusable one the factory defaults; heads, tide state and part state follow;
the START notice joins; nothing outside the settings, the part unit, the ports, the tide state, the queue, the event unit and
the contexts that an event dispatch reaches is changed (R182, R19, R51). -/
def Claim.LoadCompleteTakesTheImage : Prop :=
  ∀ s : State, s.sys.part = .starting → s.sys.restartPending = false → s.out.queue.length < 48 →
    (∀ n : Head, s.ports[n].state = .off) →
    ∃ t, exec .loadComplete s = .next t ∧
      t.settings = (if imageUsable s.sys.image then s.sys.image.items else Config.factory) ∧
      t.sys = { s.sys with
        part := .ready
        loadResult := if imageUsable s.sys.image then .loaded else .storeDefaulted } ∧
      (∀ n : Head, t.ports[n].state =
        if t.settings.heads[n].enable = true ∧ 0 < Config.share t.settings.plan n then .awaiting else .off) ∧
      t.pages = { s.pages with
        tide := match s.clock.state with
          | .unset => .noTime
          | .set => .lapsed
          | .locked _ => .lapsed } ∧
      (s.out.queue ++ [.notice s.clock.time (.start s.sys.startKind t.sys.loadResult s.clock.state)]) <+: t.out.queue ∧
      t.pending = s.pending ∧ t.clock = s.clock ∧ t.partitions = s.partitions ∧ t.corr = s.corr ∧ t.cal = s.cal ∧
      t.table = s.table ∧ t.batches = s.batches ∧ t.archive = s.archive ∧ t.link = s.link ∧ t.pins = s.pins

/-- LOAD_COMPLETE enters the modes of the external lines: an active line in a level mode raises a request, an inactive one sets its
re-arm flag, and any other mode clears the flag; after the START notice the requests of unmasked lines are dispatched, EL3 first,
with no context to hold or wake, and those of masked lines stay pending (R182, R121, R122, R125, R127, R131). That all four lines
have entered their modes before the first request is latched is log 17. -/
def Claim.LoadCompleteEntersLevelModes : Prop :=
  ∀ (s t : State) (level raised : Fin 4 → Bool), s.sys.part = .starting → s.sys.restartPending = false →
    s.events.latch = none → s.events.pending = 0#8 → (∀ n : Head, s.occ.active[n] = none) → s.out.queue.length + 5 ≤ 48 →
    exec .loadComplete s = .next t → (s.out.congested = true ∨ s.out.queue.length + 5 < t.settings.high) →
    (∀ i : Fin 4, level i = s.events.level.getLsbD i.val) →
    (∀ i : Fin 4, raised i = (t.settings.sources[lineSource i].mode == .high && level i ||
      t.settings.sources[lineSource i].mode == .low && !level i)) →
    t.occ = s.occ ∧ t.groups = s.groups ∧ t.events.latch = none ∧ t.events.level = s.events.level ∧
      (∀ i : Fin 4, t.events.rearm.getLsbD i.val = (t.settings.sources[lineSource i].mode == .high && !level i ||
        t.settings.sources[lineSource i].mode == .low && level i)) ∧
      (∀ i : Fin 4, t.events.pending.getLsbD i.val = (raised i && t.settings.sources[lineSource i].masked)) ∧
      (∀ j : Source, 4 ≤ j.val → t.events.pending.getLsbD j.val = false) ∧
      t.out.queue = s.out.queue ++ [.notice s.clock.time (.start s.sys.startKind t.sys.loadResult s.clock.state)] ++
        (([3, 2, 1, 0] : List (Fin 4)).filter fun i => raised i && !t.settings.sources[lineSource i].masked &&
          t.settings.sources[lineSource i].notify).map fun i =>
            .notice s.clock.time (.event (lineSource i) (some (level i)) 0 0)

/-- The end of the load: what it puts in force, and the entering of the level modes. -/
def Obligations.LoadCompletePutsSettingsInForce : Prop :=
  Claim.LoadCompleteTakesTheImage ∧ Claim.LoadCompleteEntersLevelModes

/-- SAVE: refused while one is in flight; otherwise it copies the settings in force and spoils the stored check word (R183). Its
completion reports the result and leaves the copy with its check word, or with an invalid one (R184); an image is usable when its
check word is the one over its items and every item is in range (R180), so a written one is usable exactly when the copy is in
range. Nothing else changes. The outcome of the read-back is the step's operand (log 15); that an invalid word is the complement of the matching one, and which items stand with it, is log 14. -/
def Obligations.SaveWritesTheCopiedSettings : Prop :=
  (∀ (h : Header) (s : State), Taken .save h s →
    (s.sys.saving.isSome → exec (.save h (.ok ())) s = .next (answered h .save .busy .none s)) ∧
    (s.sys.saving = none → exec (.save h (.ok ())) s = .next (answered h .save .accepted .none
      { s with
        sys := { s.sys with
          saving := some s.settings
          image := { s.sys.image with check := ~~~imageCheck s.sys.image.items } } }))) ∧
    (∀ (written : Bool) (s : State) (copy : Settings), s.sys.saving = some copy → Quiet s → RoomFor 1 s →
      s.sys.restartPending = false → exec (.saveComplete written) s = .next (noted (.saveEnd written)
        { s with
          sys := { s.sys with
            saving := none
            image := { items := copy, check := if written then imageCheck copy else ~~~imageCheck copy } } })) ∧
    (∀ i : Image, imageUsable i = true ↔ settingsOk i.items = true ∧ i.check = imageCheck i.items) ∧
    (∀ i : Image, imageUsable { i with check := ~~~imageCheck i.items } = false) ∧
    ∀ copy : Settings, imageUsable { items := copy, check := imageCheck copy } = settingsOk copy

/-- RESTART: refused while a SAVE is in flight; otherwise the reply joins and the restart is pending (R185). -/
def Claim.RestartWaitsForItsReply : Prop :=
  ∀ (h : Header) (s : State), Taken .restart h s →
    (s.sys.saving.isSome → exec (.restart h (.ok ())) s = .next (answered h .restart .busy .none s)) ∧
    (s.sys.saving = none → exec (.restart h (.ok ())) s = .next
      { answered h .restart .done .none s with sys := { s.sys with restartPending := true } })

/-- The completion of the RESTART reply's transmission lets the restart take effect: every block as at a cold start, but for the
clock, which carries on, the tide state, which follows it, and the start kind (R185, R186). That the RESTART reply is the
queue's last message is how the model knows it (log 18). -/
def Claim.RestartTakesEffectAtItsReply : Prop :=
  ∀ (s : State) (m : Message), s.out.transmitting = true → s.sys.restartPending = true → s.out.queue = [m] →
    ∃ t, exec .transmissionComplete s = .next t ∧ AtStart t ∧ t.pins = s.pins ∧ t.pending = s.pending ∧ t.clock = s.clock ∧
      t.pages.tide = (match s.clock.state with
        | .unset => .noTime
        | .set => .lapsed
        | .locked _ => .lapsed) ∧
      t.sys =
        { part := .starting
          startKind := .restart
          loadResult := .storeDefaulted
          restartPending := false
          saving := none
          image := s.sys.image }

/-! ## The survey link (chapters 8 and 10) -/

/-- LINK_READY: the oldest message's transmission begins when link ready is asserted and none is in flight (R141). -/
def Claim.LinkReadyBeginsATransmission : Prop :=
  ∀ (level : Bool) (s : State), exec (.linkReady level) s = .next
    { s with
      pins := { s.pins with linkReady := level }
      out := match s.out.queue with
        | [] => s.out
        | m :: _ =>
          if level = true ∧ s.out.transmitting = false then { s.out with transmitting := true, lineOut := messageFrames m }
          else s.out }

/-- TRANSMISSION_COMPLETE: the oldest message leaves, congestion ends at the low mark, and the next transmission begins while link
ready is asserted (R141, R144); with no reading that could take an entry already free, no frame that could be taken, and short of a
RESTART's end. -/
def Claim.TransmissionCompleteFreesTheOldestEntry : Prop :=
  ∀ (s : State) (m : Message) (rest : List Message), s.out.transmitting = true → s.out.queue = m :: rest → Quiet s →
    (s.occ.waiting = [] ∨ hasEntry s = false) → (s.sys.restartPending = false ∨ rest ≠ []) →
    (s.link.intake = [] ∨ s.sys.restartPending = true) →
    exec .transmissionComplete s = .next
      { s with
        out := { s.out with
          queue := rest
          congested := s.out.congested && decide (s.settings.low < rest.length)
          transmitting := s.pins.linkReady && !rest.isEmpty
          lineOut := match rest with
            | [] => s.out.lineOut
            | next :: _ => if s.pins.linkReady then messageFrames next else s.out.lineOut } }

/-- TRANSMISSION_COMPLETE with frames in the intake: the entry is freed and the next transmission begins as ever, and the link
controller looks for a frame (R141, R170). A single frame, with no other claimant of R143 at hand, is taken at once, as if its
command arrived at the freed entry. With a reading waiting and no event at hand, either it is taken so or the reading joins, by a
free value on which nothing here rests (R143, R98; log 26). -/
def Claim.FrameIsTakenAtTheFreedEntry : Prop :=
  ∀ (s t : State) (m : Message) (rest : List Message), s.out.transmitting = true → s.out.queue = m :: rest → rest.length < 48 →
    Quiet s → (s.occ.waiting = [] ∨ hasEntry s = false) → s.sys.restartPending = false → s.link.intake ≠ [] →
    t =
      { s with
        out := { s.out with
          queue := rest
          congested := s.out.congested && decide (s.settings.low < rest.length)
          transmitting := s.pins.linkReady && !rest.isEmpty
          lineOut := match rest with
            | [] => s.out.lineOut
            | next :: _ => if s.pins.linkReady then messageFrames next else s.out.lineOut } } →
    hasEntry t = true ∧ exec .transmissionComplete s = .next (claimEntry 4 t) ∧
    ∀ c, s.link.intake = [c] → c.isFrame = true → eventAtHand t = false →
      (waitingRival t = none → exec .transmissionComplete s = exec c { t with link := { t.link with intake := [] } }) ∧
      ∀ u, waitingRival t = some .readingJoin → exec .readingJoin { t with choices := s.choices + 1 } = .next u →
        exec .transmissionComplete s = if Config.controllerFirst s.choices
          then exec c { t with link := { t.link with intake := [] }, choices := s.choices + 1 } else .next (claimEntry 3 u)

/-- The controller's looks at a freed entry (R143, R170). With no frame or no entry nothing is claimed. With both and no other
claimant at hand the oldest frame is taken and handled whole, and the controller looks again. With another claimant at hand it
comes about, by a free value on which nothing here rests (log 26), that the frame is taken, or that the claimant is first: an event
that comes next finds the entry open; a waiting reading or a dump's block joins at once, and the controller looks again. -/
def Claim.FreedEntryGoesToOneClaimant : Prop :=
  ∀ (k : Nat) (s t : State), t = { s with choices := s.choices + 1 } →
    ((s.link.intake = [] ∨ hasEntry s = false) → claimEntry k s = s) ∧
    ∀ (c : Instr) (frames : List Instr) (taken : State → State), s.link.intake = c :: frames → hasEntry s = true → Quiet s →
      (∀ x : State, taken x = drain (handleFrame c { x with link := { x.link with intake := frames } })) →
      (eventAtHand s = false → waitingRival s = none → claimEntry (k + 1) s = claimEntry k (taken s)) ∧
      (eventAtHand s = true → claimEntry (k + 1) s = if Config.controllerFirst s.choices then claimEntry k (taken t) else t) ∧
      ∀ i u, eventAtHand s = false → waitingRival s = some i → exec i t = .next u →
        claimEntry (k + 1) s = claimEntry k (if Config.controllerFirst s.choices then taken t else u)

/-- Who is at hand to claim an entry beside the controller (R143): an event, when the next step of `pending` would bring a message into
the queue; a waiting reading, when READING_JOIN would; a dump that waits for room, when DUMP_BLOCK would. That the events of that
moment are the steps of `pending` is the model's choice (log 26). -/
def Claim.OtherClaimantsWouldBringAMessage : Prop :=
  ∀ s : State,
    (∀ i : Instr, joinsMessage i s = true ↔ i.isFrame = false ∧ (∀ b, i ≠ .surveyFrame b) ∧ i ≠ .transmissionComplete ∧
      ∃ u, exec i s = .next u ∧ s.out.queue.length < u.out.queue.length) ∧
    (eventAtHand s = true ↔ ∃ i rest, s.pending = i :: rest ∧ joinsMessage i s = true) ∧
    (joinsMessage .readingJoin s = true → waitingRival s = some .readingJoin) ∧
    (joinsMessage .readingJoin s = false → joinsMessage .dumpBlock s = true → waitingRival s = some .dumpBlock) ∧
    (joinsMessage .readingJoin s = false → joinsMessage .dumpBlock s = false → waitingRival s = none)

/-- A frame whose kind is no command kind is answered UNKNOWN_KIND, in any part state and from any sender (R171, ground 1). -/
def Claim.UnknownKindIsAnswered : Prop :=
  ∀ (h : Header) (kind : Byte) (s : State), Attentive s →
    exec (.unknownKindCommand h kind) s = .next (told (.reply h kind.toNat .unknownKind .none) s)

/-- The grounds of R171 in their order: NOT_READY for any kind but STATUS while the part is STARTING, DENIED without the kind's
permission group, BAD_VALUE for a malformed body; each leaves every state but the queue as it was. -/
def Claim.CommandsAreRefusedInOrder : Prop :=
  ∀ (i : Instr) (k : Kind) (h : Header) (malformed : Bool) (s : State), i.kind = some k → commandForm i = some (h, malformed) →
    Attentive s →
    (s.sys.part = .starting ∧ k ≠ .status → exec i s = .next (answered h k .notReady .none s)) ∧
    ((s.sys.part = .ready ∨ k = .status) → permitted s.settings h.sender k = false →
      exec i s = .next (answered h k .denied .none s)) ∧
    ((s.sys.part = .ready ∨ k = .status) → permitted s.settings h.sender k = true → malformed = true →
      exec i s = .next (answered h k .badValue .none s))

/-- Who may send what: a query passes for every sender, sender 0 passes with every kind, and senders 1 to 3 pass with the kinds
of the groups in their sets (R173). -/
def Claim.PermissionsFollowTheSets : Prop :=
  ∀ (t : Settings) (k : Kind),
    permitted t 0 k = true ∧
    (k ∈ [Kind.status, .occQuery, .stnGet, .stnList, .pageList, .calRead, .tideQuery] → ∀ n, permitted t n k = true) ∧
    (∀ g, k.group = some g → ∀ n : Fin 3, permitted t n.succ k = t.senders[n].getLsbD g.bit)

/-- A valid frame that cannot be taken, since no entry is free or a RESTART is pending, waits in the intake, and is dropped and
counted when four frames wait (R169, R170, R185). That a command row is the arrival of its frame is log 2. -/
def Claim.FrameThatCannotBeTakenWaits : Prop :=
  ∀ (i : Instr) (s : State), i.isFrame = true → Quiet s → (48 ≤ s.out.queue.length ∨ s.sys.restartPending = true) →
    (s.link.intake.length < 4 → exec i s = .next { s with link := { s.link with intake := s.link.intake ++ [i] } }) ∧
    (4 ≤ s.link.intake.length → exec i s = .next
      { s with link := { s.link with overflows := min (s.link.overflows + 1) 65535 } })

/-- SURVEY_FRAME at a receiver that hunts and holds no byte: a valid frame is the arrival of the command it spells; a frame that
fails, with no start marker inside it, raises the frames-dropped count once and leaves the receiver hunting (R168, R169). That its
bytes, hunted again, are no further discarded run is log 13. -/
def Claim.SurveyFrameIsTakenOrDropped : Prop :=
  ∀ (bytes : List Byte) (s : State), s.link.rx = { buf := [], rescan := 0, junk := false } → bytes.head? = some 0xA5#8 →
    surveyFrameLength bytes = some bytes.length →
    (∀ c, decodeSurveyFrame bytes = some c → exec (.surveyFrame bytes) s = exec c s) ∧
    (decodeSurveyFrame bytes = none → 0xA5#8 ∉ bytes.tail → Quiet s → exec (.surveyFrame bytes) s = .next
      { s with link := { s.link with framesDropped := min (s.link.framesDropped + 1) 65535 } })

/-- STATUS: taken in every part state; the report of the part as it stands, the reply itself counted; with its clear flag it sets
the counts it reported to 0 and nothing else (R175, R176, R160). -/
def Claim.StatusReportsThePart : Prop :=
  ∀ (h : Header) (clear : Bool) (s : State), Attentive s →
    ∃ r t, exec (.status h (.ok clear)) s = .next t ∧
      (clear = false → t = answered h .status .done (.status r) s) ∧
      (clear = true → t =
          { answered h .status .done (.status r) s with
            out := { (answered h .status .done (.status r) s).out with noticesLost := 0, samplesDropped := 0 }
            link := { s.link with framesDropped := 0, overflows := 0 }
            ports := t.ports } ∧
        ∀ n : Head, t.ports[n] = { s.ports[n] with linkErrors := 0, overruns := 0, gaps := 0 }) ∧
      r.part = s.sys.part ∧ r.loadResult = s.sys.loadResult ∧ r.time = s.clock.time ∧ r.clock = s.clock.state ∧
      r.tide = s.pages.tide ∧ r.count = s.out.queue.length + 1 ∧ r.congested = s.out.congested ∧
      r.storeSlots = (parkedContexts s.occ).length ∧ r.live = (liveContexts s.occ).length ∧
      r.framesDropped = s.link.framesDropped ∧ r.overflows = s.link.overflows ∧ r.noticesLost = s.out.noticesLost ∧
      r.samplesDropped = s.out.samplesDropped ∧ r.dump = s.archive.dump ∧
      ∀ n : Head, r.heads[n].state = s.ports[n].state ∧ r.heads[n].status = s.ports[n].status ∧
        r.heads[n].linkErrors = s.ports[n].linkErrors ∧ r.heads[n].overruns = s.ports[n].overruns ∧
        r.heads[n].gaps = s.ports[n].gaps ∧ r.heads[n].capacity = 128 * Config.share s.settings.plan n ∧
        r.heads[n].length = s.archive.rings[n].records.length ∧ r.heads[n].counter = s.archive.rings[n].counter

/-- The STATUS report gives the oldest and newest sequence of a ring that holds a record, and neither for an empty one (R160, R157),
and what pauses the dump in flight, the first of: no entry free, the reply counted; congestion; the quiet condition; nothing
(R187). -/
def Claim.StatusReportsSequencesAndPause : Prop :=
  ∀ (h : Header) (clear : Bool) (s : State), Attentive s →
    ∃ r t, exec (.status h (.ok clear)) s = .next t ∧ t.out.queue = s.out.queue ++ [.reply h Kind.status.code .done (.status r)] ∧
      (∀ n : Head,
        (s.archive.rings[n].records = [] → r.heads[n].oldest = none ∧ r.heads[n].newest = none) ∧
        (s.archive.rings[n].records ≠ [] →
          r.heads[n].oldest = some ((s.archive.rings[n].counter +
            (4294967296 - s.archive.rings[n].records.length % 4294967296)) % 4294967296) ∧
          r.heads[n].newest = some ((s.archive.rings[n].counter + 4294967295) % 4294967296))) ∧
      (s.archive.dump = none → r.pause = .none) ∧
      ∀ d, s.archive.dump = some d →
        (s.out.queue.length = 47 → r.pause = .noFreeEntry) ∧
        (s.out.queue.length < 47 →
          (s.out.congested = true → r.pause = .congestion) ∧
          (s.out.congested = false →
            (d.quiet = true → (∃ (n : Head) (c : Context), s.occ.active[n] = some c ∧ gathering c = true) → r.pause = .quiet) ∧
            ((d.quiet = false ∨ ∀ (n : Head) c, s.occ.active[n] = some c → gathering c = false) → r.pause = .none)))

/-- A STATUS whose own reply brings a queue that is not congested to its high mark: the reply reports the queue congested, and a dump
in flight paused by congestion unless no entry is left, congestion begins and source 7 is raised; the clear flag clears the counts
reported as ever (R144, R175, R176, R187). -/
def Claim.StatusAtTheHighMarkReportsCongestion : Prop :=
  ∀ (h : Header) (clear : Bool) (s : State), s.link.intake = [] → s.sys.restartPending = false → Quiet s →
    s.out.queue.length < 48 → s.out.congested = false → s.settings.high ≤ s.out.queue.length + 1 →
    ∃ r u, exec (.status h (.ok clear)) s = .next (drain (raise 7 u)) ∧ u.out.congested = true ∧
      r.count = s.out.queue.length + 1 ∧ r.congested = true ∧
      (∀ d, s.archive.dump = some d → s.out.queue.length < 47 → r.pause = .congestion) ∧
      (clear = false → u = answered h .status .done (.status r) s) ∧
      (clear = true → u =
          { answered h .status .done (.status r) s with
            out := { (answered h .status .done (.status r) s).out with noticesLost := 0, samplesDropped := 0 }
            link := { s.link with framesDropped := 0, overflows := 0 }
            ports := u.ports } ∧
        ∀ n : Head, u.ports[n] = { s.ports[n] with linkErrors := 0, overruns := 0, gaps := 0 })

/-- A message of any kind that joins: below the high mark, or while the queue is congested already, it takes the tail entry and raises
nothing; the one that brings a queue that is not congested to the high mark makes it congested and raises source 7 (R144). -/
def Claim.JoinAtTheHighMarkBeginsCongestion : Prop :=
  ∀ (m : Message) (s : State), s.out.queue.length < 48 →
    ((s.out.congested = true ∨ s.out.queue.length + 1 < s.settings.high) →
      join m s = told m s ∧ (told m s).out.congested = s.out.congested) ∧
    (s.out.congested = false → s.settings.high ≤ s.out.queue.length + 1 →
      join m s = raise 7 (told m s) ∧ (told m s).out.congested = true)

/-- What STATUS reports of the part, of the rings and of a dump, and the congestion that a reply, or any message, begins. -/
def Obligations.StatusReportsAndClears : Prop :=
  Claim.StatusReportsThePart ∧ Claim.StatusReportsSequencesAndPause ∧ Claim.StatusAtTheHighMarkReportsCongestion ∧
    Claim.JoinAtTheHighMarkBeginsCongestion

/-- SENDER_SET: a sender outside 1 to 3 is refused; a set carried replaces the sender's; the reply reports all four sets (R174). -/
def Claim.SenderSetReplacesOneSet : Prop :=
  ∀ (h : Header) (p : SenderSetParams) (s : State), Taken .senderSet h s →
    ((p.sender = 0 ∨ 3 < p.sender) → exec (.senderSet h (.ok p)) s = .next (answered h .senderSet .badValue .none s)) ∧
    ∀ n : Fin 3, p.sender = n.val + 1 → ∀ l : Vector (BitVec 7) 3,
      l = (match p.groups with
        | none => s.settings.senders
        | some g => s.settings.senders.set n g) →
      exec (.senderSet h (.ok p)) s = .next (answered h .senderSet .done (.senders [0x7F#7, l[0], l[1], l[2]])
        { s with settings := { s.settings with senders := l } })

/-! ## Setting commands (chapters 1, 5, 7, 8) -/

/-- ARB_SET stores a mode and a limit of 1 to 15, sets the consecutive-service count to 0 and keeps the rest; other limits, and other
modes (a malformed body), are refused (R15). -/
def Obligations.ArbSetStoresModeAndLimit : Prop :=
  ∀ (h : Header) (p : ArbSetParams) (s : State), Taken .arbSet h s →
    exec (.arbSet h .malformed) s = .next (answered h .arbSet .badValue .none s) ∧
    ((p.limit < 1 ∨ 15 < p.limit) → exec (.arbSet h (.ok p)) s = .next (answered h .arbSet .badValue .none s)) ∧
    (1 ≤ p.limit → p.limit ≤ 15 → exec (.arbSet h (.ok p)) s = .next (answered h .arbSet .done .none
      { s with
        settings := { s.settings with arbMode := p.mode, arbLimit := p.limit }
        corr := { s.corr with service := 0 } }))

/-- FAULT_CLEAR takes the named causes out of the head's status set and changes nothing else (R18). -/
def Claim.FaultClearRemovesCauses : Prop :=
  ∀ (h : Header) (p : FaultClearParams) (s : State), Taken .faultClear h s →
    (3 < p.head → exec (.faultClear h (.ok p)) s = .next (answered h .faultClear .badValue .none s)) ∧
    ∀ n : Head, p.head = n.val → exec (.faultClear h (.ok p)) s = .next (answered h .faultClear .done .none
      { s with ports := s.ports.set n { s.ports[n] with status := s.ports[n].status &&& ~~~p.causes } })

/-- OCC_DEFAULTS replaces the default policy, and nothing else; a policy out of range is refused (R75). -/
def Claim.OccDefaultsReplacesThePolicy : Prop :=
  ∀ (h : Header) (p : Policy) (s : State), Taken .occDefaults h s →
    (policyOk p = true ↔ (10 ≤ p.target ∧ p.target ≤ 3600) ∧ (3 ≤ p.minimum ∧ p.minimum ≤ p.target) ∧ p.settle ≤ 600 ∧
      (p.runLimit = 0 ∨ 60 ≤ p.runLimit ∧ p.runLimit ≤ 14400) ∧ (10 ≤ p.tiltLimit ∧ p.tiltLimit ≤ 6000) ∧
      (1 ≤ p.rateLimit ∧ p.rateLimit ≤ 1000) ∧ (p.gate = 0 ∨ 10 ≤ p.gate ∧ p.gate ≤ 50000)) ∧
    (policyOk p = false → exec (.occDefaults h (.ok p)) s = .next (answered h .occDefaults .badValue .none s)) ∧
    (policyOk p = true → exec (.occDefaults h (.ok p)) s = .next (answered h .occDefaults .done .none
      { s with settings := { s.settings with policy := p } }))

/-- HEAD_SETUP: the grounds in order; then the settings are stored. A head whose enable becomes clear, or that has no plan share,
is OFF with its port cleared; a head that was OFF and now has both enters AWAITING; any other keeps its state, a running
silence timer moved by the change of the limit. Disabling empties the partition. Fault status and counts stay (R4). That a head
that goes OFF drops the bytes received so far is the model's choice (log 19); the case of a moved timer that is overdue at once
is left to SILENCE_EXPIRY (log 21). -/
def Obligations.HeadSetupStoresSettingsWithTheirEffects : Prop :=
  ∀ (h : Header) (p : HeadSetupParams) (s : State), Taken .headSetup h s →
    ((3 < p.head ∨ 999 < p.latency ∨ p.silence < 1 ∨ 60 < p.silence) →
      exec (.headSetup h (.ok p)) s = .next (answered h .headSetup .badValue .none s)) ∧
    ∀ n : Head, p.head = n.val → p.latency ≤ 999 → 1 ≤ p.silence → p.silence ≤ 60 →
      (p.enable = false → s.occ.active[n].isSome → exec (.headSetup h (.ok p)) s = .next (answered h .headSetup .inUse .none s)) ∧
      ((p.enable = true ∨ s.occ.active[n] = none) →
        (p.enable = true → 0 < Config.share s.settings.plan n → ∀ e, s.ports[n].state = .live e →
          (s.clock.time : Int) < e + 1000 * ((p.silence : Int) - s.settings.heads[n].silence)) →
        ∃ q : HeadPort, exec (.headSetup h (.ok p)) s = .next (answered h .headSetup .done .none
            { s with
              settings := { s.settings with
                heads := s.settings.heads.set n
                  { enable := p.enable, latency := p.latency, silence := p.silence, notify := p.notify, halt := p.halt } }
              ports := s.ports.set n q
              partitions := if p.enable then s.partitions else s.partitions.set n [] }) ∧
          (p.enable = true ∧ 0 < Config.share s.settings.plan n → q = { s.ports[n] with
            state := match s.ports[n].state with
              | .off => .awaiting
              | .awaiting => .awaiting
              | .live e => .live (e + 1000 * ((p.silence : Int) - s.settings.heads[n].silence))
              | .silent => .silent }) ∧
          (¬ (p.enable = true ∧ 0 < Config.share s.settings.plan n) → q = { s.ports[n] with
            state := .off
            expected := none
            anchor := none
            firstMark := false
            restartMark := false
            rx := { buf := [], rescan := 0, junk := false } }))

/-- SET_PLAN: the grounds in order, each given when those before it do not hold; then the plan is in force, the archive is emptied
with every counter at 0, the service count is 0, heads without a share go OFF and heads that gain one enter AWAITING; nothing
else changes (R11, R159). That a head that goes OFF drops the bytes received so far is the model's choice (log 19). -/
def Obligations.SetPlanEmptiesTheArchive : Prop :=
  ∀ (h : Header) (p : Nat) (s : State), Taken .setPlan h s →
    (3 < p → exec (.setPlan h (.ok p)) s = .next (answered h .setPlan .badValue .none s)) ∧
    (p ≤ 3 → (liveContexts s.occ ≠ [] ∨ s.archive.dump.isSome ∨ s.corr.inFlight.isSome ∨ ∃ n : Head, s.partitions[n] ≠ []) →
      exec (.setPlan h (.ok p)) s = .next (answered h .setPlan .inUse .none s)) ∧
    ∀ plan : Fin 4, p = plan.val → liveContexts s.occ = [] → s.archive.dump = none → s.corr.inFlight = none →
      (∀ n : Head, s.partitions[n] = []) →
      ∃ ports : Vector HeadPort 4, exec (.setPlan h (.ok p)) s = .next (answered h .setPlan .done .none
          { s with
            settings := { s.settings with plan := plan }
            ports := ports
            archive := { s.archive with rings := Vector.replicate 4 { records := [], counter := 0 } }
            corr := { s.corr with service := 0 } }) ∧
        ∀ n : Head,
          (s.settings.heads[n].enable = true ∧ 0 < Config.share plan n → ports[n] = { s.ports[n] with
            state := match s.ports[n].state with
              | .off => .awaiting
              | .awaiting => .awaiting
              | .live e => .live e
              | .silent => .silent }) ∧
          (¬ (s.settings.heads[n].enable = true ∧ 0 < Config.share plan n) → ports[n] = { s.ports[n] with
            state := .off
            expected := none
            anchor := none
            firstMark := false
            restartMark := false
            rx := { buf := [], rescan := 0, junk := false } })

/-- EVT_SETUP: a list that names a source twice or one outside 0 to 7, or gives a source a mode that is not its own, is refused; an
empty list only reports; one entry, here one that masks its source, is stored, and a change of an external line's mode acts as
entering the new mode: a level mode raises a request when the line is active and sets the re-arm flag when it is not, and any
other mode clears the flag (R129, R121, R122). What an unmasked request then does is EVENT_DISPATCH. -/
def Claim.EvtSetupStoresAndEntersModes : Prop :=
  ∀ (h : Header) (s : State), Taken .evtSetup h s →
    (∀ l : List EvtEntry, (8 < l.length ∨ (∃ e ∈ l, 7 < e.source) ∨ (∃ e ∈ l, e.source < 4 ∧ e.mode = .on) ∨
        (∃ e ∈ l, 4 ≤ e.source ∧ e.mode ≠ .off ∧ e.mode ≠ .on) ∨ ¬ (l.map fun e => e.source).Nodup) →
      exec (.evtSetup h (.ok l)) s = .next (answered h .evtSetup .badValue .none s)) ∧
    (∃ r, exec (.evtSetup h (.ok [])) s = .next (answered h .evtSetup .done (.sources r s.events.level) s)) ∧
    ∀ (e : EvtEntry) (i : Source), e.source = i.val → e.masked = true →
      ((i.val < 4 → e.mode ≠ .on) ∧ (4 ≤ i.val → e.mode = .off ∨ e.mode = .on)) →
      ∃ t r, exec (.evtSetup h (.ok [e])) s = .next (answered h .evtSetup .done (.sources r s.events.level) t) ∧
        t = { s with
          settings := { s.settings with
            sources := s.settings.sources.set i { mode := e.mode, masked := e.masked, notify := e.notify } }
          events := { s.events with pending := t.events.pending, rearm := t.events.rearm } } ∧
        (∀ j : Source, r[j.val]? = some
          { mode := t.settings.sources[j].mode
            masked := t.settings.sources[j].masked
            notify := t.settings.sources[j].notify
            pending := t.events.pending.getLsbD j.val }) ∧
        (∀ j : Source, j ≠ i → t.events.pending.getLsbD j.val = s.events.pending.getLsbD j.val) ∧
        (∀ k : Fin 4, k.val ≠ i.val → t.events.rearm.getLsbD k.val = s.events.rearm.getLsbD k.val) ∧
        ((4 ≤ i.val ∨ s.settings.sources[i].mode = e.mode) → t.events = s.events) ∧
        (i.val < 4 → s.settings.sources[i].mode ≠ e.mode →
          t.events.rearm.getLsbD i.val =
            (e.mode == .high && !s.events.level.getLsbD i.val || e.mode == .low && s.events.level.getLsbD i.val) ∧
          t.events.pending.getLsbD i.val = (s.events.pending.getLsbD i.val ||
            (e.mode == .high && s.events.level.getLsbD i.val || e.mode == .low && !s.events.level.getLsbD i.val)))

/-- EVT_SETUP with any list that passes the tests, unmasked entries among them: each source named is stored and, where an external
line's mode changes, the new mode is entered; every other source is as it was; the reply reports mode, mask, notify and pending flag
of all eight sources, and the levels, and what is then pending and unmasked is dispatched (R129, R121, R122, R125; within the
command, log 17). -/
def Claim.EvtSetupAppliesEveryEntry : Prop :=
  ∀ (h : Header) (l : List EvtEntry) (s : State), Taken .evtSetup h s → l.length ≤ 8 → (l.map fun e => e.source).Nodup →
    (∀ e ∈ l, e.source ≤ 7 ∧ (e.source < 4 → e.mode ≠ .on) ∧ (4 ≤ e.source → e.mode = .off ∨ e.mode = .on)) →
    ∃ t r, exec (.evtSetup h (.ok l)) s = .next (drain (answered h .evtSetup .done (.sources r s.events.level) t)) ∧
      t = { s with
        settings := { s.settings with sources := t.settings.sources }
        events := { s.events with pending := t.events.pending, rearm := t.events.rearm } } ∧
      r = (List.finRange 8).map (fun j =>
        { mode := t.settings.sources[j].mode
          masked := t.settings.sources[j].masked
          notify := t.settings.sources[j].notify
          pending := t.events.pending.getLsbD j.val }) ∧
      (∀ j : Source, (∀ e ∈ l, e.source ≠ j.val) → t.settings.sources[j] = s.settings.sources[j] ∧
        t.events.pending.getLsbD j.val = s.events.pending.getLsbD j.val ∧
        t.events.rearm.getLsbD j.val = s.events.rearm.getLsbD j.val) ∧
      ∀ e ∈ l, ∀ j : Source, e.source = j.val →
        t.settings.sources[j] = { mode := e.mode, masked := e.masked, notify := e.notify } ∧
        ((4 ≤ j.val ∨ s.settings.sources[j].mode = e.mode) →
          t.events.pending.getLsbD j.val = s.events.pending.getLsbD j.val ∧
          t.events.rearm.getLsbD j.val = s.events.rearm.getLsbD j.val) ∧
        (j.val < 4 → s.settings.sources[j].mode ≠ e.mode →
          t.events.rearm.getLsbD j.val =
            (e.mode == .high && !s.events.level.getLsbD j.val || e.mode == .low && s.events.level.getLsbD j.val) ∧
          t.events.pending.getLsbD j.val = (s.events.pending.getLsbD j.val ||
            (e.mode == .high && s.events.level.getLsbD j.val || e.mode == .low && !s.events.level.getLsbD j.val)))

/-- EVT_CLEAR clears the pending flags of the named sources, reports those dropped, and changes nothing else (R130). -/
def Claim.EvtClearDropsRequests : Prop :=
  ∀ (h : Header) (l : BitVec 8) (s : State), Taken .evtClear h s →
    exec (.evtClear h (.ok l)) s = .next (answered h .evtClear .done (.cleared (s.events.pending &&& l))
      { s with events := { s.events with pending := s.events.pending &&& ~~~l } })

/-- GROUP_SET: settings out of range are refused, settings for a GATHERING group too; otherwise they are stored; the reply reports
the group; without settings nothing changes and nothing is refused (R133). -/
def Obligations.GroupSetStoresAndReports : Prop :=
  ∀ (h : Header) (g : Group) (s : State), Taken .groupSet h s →
    (∀ target wait : Nat, (target < 2 ∨ 4 < target ∨ wait < 1 ∨ 600 < wait) →
      exec (.groupSet h (.ok ⟨g, some (target, wait)⟩)) s = .next (answered h .groupSet .badValue .none s)) ∧
    (∀ target wait : Nat, 2 ≤ target → target ≤ 4 → 1 ≤ wait → wait ≤ 600 →
      (s.groups[g].arrivals ≠ [] →
        exec (.groupSet h (.ok ⟨g, some (target, wait)⟩)) s = .next (answered h .groupSet .inUse .none s)) ∧
      (s.groups[g].arrivals = [] → exec (.groupSet h (.ok ⟨g, some (target, wait)⟩)) s = .next (answered h .groupSet .done
        (.group
          { target := target
            waitLimit := wait
            gathering := false
            run := s.groups[g].run
            arrivals := []
            timer := s.groups[g].timer
            members := memberCount g s.occ })
        { s with settings := { s.settings with groups := s.settings.groups.set g { target := target, waitLimit := wait } } }))) ∧
    exec (.groupSet h (.ok ⟨g, none⟩)) s = .next (answered h .groupSet .done
      (.group
        { target := s.settings.groups[g].target
          waitLimit := s.settings.groups[g].waitLimit
          gathering := !s.groups[g].arrivals.isEmpty
          run := s.groups[g].run
          arrivals := membersOf s.occ s.groups[g].arrivals
          timer := s.groups[g].timer
          members := memberCount g s.occ }) s)

/-- QUEUE_MARKS: marks out of range are refused; otherwise they are stored and the congestion state is evaluated against them: a
queue at or above the new high mark becomes congested and raises source 7, one at or below the new low mark stops being
congested, any other keeps its state; the reply reports the marks, the count with itself and the congestion state, and begins
congestion itself when it brings the count to the high mark. Without marks the command only reports (R145, R144, R123). -/
def Obligations.QueueMarksAreStoredAndEvaluated : Prop :=
  ∀ (h : Header) (s : State), Taken .queueMarks h s →
    (∀ high low : Nat, (high < 8 ∨ 46 < high ∨ low < 4 ∨ high < low + 4) →
      exec (.queueMarks h (.ok (some (high, low)))) s = .next (answered h .queueMarks .badValue .none s)) ∧
    exec (.queueMarks h (.ok none)) s = .next (answered h .queueMarks .done
      (.marks s.settings.high s.settings.low (s.out.queue.length + 1) s.out.congested) s) ∧
    ∀ (high low : Nat) (t : State), 8 ≤ high → high ≤ 46 → 4 ≤ low → low + 4 ≤ high →
      t = { s with settings := { s.settings with high := high, low := low } } →
      (s.out.congested = false → s.out.queue.length + 1 < high →
        exec (.queueMarks h (.ok (some (high, low)))) s = .next (answered h .queueMarks .done
          (.marks high low (s.out.queue.length + 1) false) t)) ∧
      (s.out.congested = false → s.out.queue.length + 1 = high →
        exec (.queueMarks h (.ok (some (high, low)))) s = .next (drain (raise 7 (answered h .queueMarks .done
          (.marks high low (s.out.queue.length + 1) true) t)))) ∧
      (s.out.congested = false → high ≤ s.out.queue.length →
        exec (.queueMarks h (.ok (some (high, low)))) s = .next (drain (answered h .queueMarks .done
          (.marks high low (s.out.queue.length + 1) true) (raise 7 { t with out := { s.out with congested := true } })))) ∧
      (s.out.congested = true → low < s.out.queue.length →
        exec (.queueMarks h (.ok (some (high, low)))) s = .next (answered h .queueMarks .done
          (.marks high low (s.out.queue.length + 1) true) t)) ∧
      (s.out.congested = true → s.out.queue.length ≤ low →
        exec (.queueMarks h (.ok (some (high, low)))) s = .next (answered h .queueMarks .done
          (.marks high low (s.out.queue.length + 1) false) { t with out := { s.out with congested := false } }))

/-- STREAM_SELECT: a selector outside 0 to 3, or a flag value outside the mask, is refused; otherwise the selector's items are
replaced and all four are reported; the batches are untouched (R152). -/
def Claim.StreamSelectReplacesASelector : Prop :=
  ∀ (h : Header) (p : StreamSelectParams) (s : State), Taken .streamSelect h s →
    ((3 < p.selector ∨ p.value &&& ~~~p.mask ≠ 0#4) →
      exec (.streamSelect h (.ok p)) s = .next (answered h .streamSelect .badValue .none s)) ∧
    ∀ (k : Fin 4) (l : Vector Selector 4), p.selector = k.val → p.value &&& ~~~p.mask = 0#4 →
      l = s.settings.selectors.set k
        { enable := p.enable, heads := p.heads, classes := p.classes, mask := p.mask, value := p.value } →
      exec (.streamSelect h (.ok p)) s = .next (answered h .streamSelect .done (.selectors [l[0], l[1], l[2], l[3]])
        { s with settings := { s.settings with selectors := l } })

/-- STREAM_BATCH: a pair out of range is refused; without a pair the command only reports. A pair is stored; with every batch below
the new threshold, the flush expiry of each non-empty batch is moved by the change of the flush time, none being due then;
and a lone batch at the new threshold is offered after the reply and joins, being left empty (R155, R153). -/
def Claim.StreamBatchBringsBatchesUnderNewSettings : Prop :=
  ∀ (h : Header) (s : State) (lengths : List Nat), Taken .streamBatch h s →
    lengths = [s.batches[0].records.length, s.batches[1].records.length, s.batches[2].records.length,
      s.batches[3].records.length] →
    (∀ threshold flush : Nat, (threshold < 1 ∨ 16 < threshold ∨ flush < 100 ∨ 10000 < flush) →
      exec (.streamBatch h (.ok (some (threshold, flush)))) s = .next (answered h .streamBatch .badValue .none s)) ∧
    exec (.streamBatch h (.ok none)) s = .next (answered h .streamBatch .done
      (.batching s.settings.threshold s.settings.flush lengths) s) ∧
    ∀ threshold flush : Nat, 1 ≤ threshold → threshold ≤ 16 → 100 ≤ flush → flush ≤ 10000 →
      ((∀ n : Head, s.batches[n].records.length < threshold ∧ ∀ e, s.batches[n].expiry = some e →
          (s.clock.time : Int) < e + ((flush : Int) - s.settings.flush)) →
        ∃ b : Vector Batch 4, exec (.streamBatch h (.ok (some (threshold, flush)))) s = .next (answered h .streamBatch .done
            (.batching threshold flush lengths)
            { s with
              settings := { s.settings with threshold := threshold, flush := flush }
              batches := b }) ∧
          ∀ n : Head, (s.batches[n].records = [] → b[n] = s.batches[n]) ∧
            (s.batches[n].records ≠ [] → b[n] = { s.batches[n] with
              expiry := s.batches[n].expiry.map fun e => e + ((flush : Int) - s.settings.flush) })) ∧
      (∀ n : Head, threshold ≤ s.batches[n].records.length → (∀ m : Head, m ≠ n → s.batches[m].records = []) →
        s.out.congested = false → RoomFor 2 s →
        exec (.streamBatch h (.ok (some (threshold, flush)))) s = .next
          (told (.batch n .threshold s.batches[n].records) (answered h .streamBatch .done (.batching threshold flush lengths)
            { s with
              settings := { s.settings with threshold := threshold, flush := flush }
              batches := s.batches.set n { records := [], expiry := none } })))

/-! ## Calibration (chapter 2) -/

/-- CAL_STAGE: the grounds, then the part is written into the staged record, which starts as a copy of the committed one where there
is none: a TABLE part from its first index on, cut to its new length; a TILT or TEMPERATURE part whole. Nothing else changes
(R22, R23, R24). That a TABLE part with an empty list, no new length and no upper count is refused when its first index lies beyond
L + 1, where R23's index test and its last paragraph part ways, is the model's reading (log 24). -/
def Obligations.CalStageWritesAPart : Prop :=
  ∀ (h : Header) (p : CalPart) (s : State), Taken .calStage h s →
    (∀ m : Nat, 3 < m → exec (.calStage h (.ok ⟨m, p⟩)) s = .next (answered h .calStage .badValue .none s)) ∧
    ∀ (n : Head) (r : CalRecord), r = s.cal.staged[n].getD s.settings.cal[n].record →
      (partOk p = false → exec (.calStage h (.ok ⟨n.val, p⟩)) s = .next (answered h .calStage .badValue .none s)) ∧
      (∀ t : TablePart, p = .table t → partOk p = true →
        (r.intervals.length + 1 < t.first ∨ 33 < t.first + t.intervals.length ∨
          (∃ l, t.newLength = some l ∧ r.intervals.length < l ∧
            (t.intervals = [] ∨ t.first + t.intervals.length < l + 1)) →
          exec (.calStage h (.ok ⟨n.val, p⟩)) s = .next (answered h .calStage .badValue .none s)) ∧
        (t.first ≤ r.intervals.length + 1 → t.first + t.intervals.length ≤ 33 →
          (∀ l, t.newLength = some l → l ≤ r.intervals.length ∨ t.intervals ≠ [] ∧ l + 1 ≤ t.first + t.intervals.length) →
          ∃ w : List Interval,
            (∀ k : Nat, w[k]? =
              if t.newLength.any (fun l => decide (l ≤ k)) then none
              else if t.first ≤ k + 1 ∧ k + 1 < t.first + t.intervals.length then t.intervals[k + 1 - t.first]?
              else r.intervals[k]?) ∧
            exec (.calStage h (.ok ⟨n.val, p⟩)) s = .next (answered h .calStage .done .none
              { s with
                cal := { s.cal with
                  staged := s.cal.staged.set n (some { r with intervals := w, upper := t.upper.getD r.upper }) } }))) ∧
      (∀ t : TiltItems, p = .tilt t → partOk p = true → exec (.calStage h (.ok ⟨n.val, p⟩)) s = .next
        (answered h .calStage .done .none { s with cal := { s.cal with staged := s.cal.staged.set n (some { r with tilt := t }) } })) ∧
      (∀ t : TempItems, p = .temperature t → partOk p = true → exec (.calStage h (.ok ⟨n.val, p⟩)) s = .next
        (answered h .calStage .done .none { s with cal := { s.cal with staged := s.cal.staged.set n (some { r with temp := t }) } }))

/-- A record satisfies the conditions of a commit exactly when it has 1 to 32 intervals, every item in its range, lower counts strictly
ascending, the upper count above the last lower count, and every interval's end value within 9,999,000,000.0 microgal (R26). -/
def Claim.RecordConditionsAreThoseOfTheRule : Prop :=
  ∀ r : CalRecord, recordOk r = true ↔
    (1 ≤ r.intervals.length ∧ r.intervals.length ≤ 32 ∧ (∀ i ∈ r.intervals, intervalOk i = true) ∧ countOk r.upper = true ∧
      tiltItemsOk r.tilt = true ∧ tempItemsOk r.temp = true ∧
      (∀ (k : Nat) (i j : Interval), r.intervals[k]? = some i → r.intervals[k + 1]? = some j → i.lower < j.lower ∧
        (i.base * 1000 + i.factor * (j.lower - 1 - i.lower)).natAbs ≤ 99990000000000) ∧
      ∀ i : Interval, r.intervals.getLast? = some i → i.lower < r.upper ∧
        (i.base * 1000 + i.factor * (r.upper - i.lower)).natAbs ≤ 99990000000000)

/-- CAL_COMMIT: the grounds in order; then the staged record is the committed one under the next version, and no staged record is
left; a HELD context of the head becomes HELD(STALE) with its notice after the reply (R26, R27, R95; a context already
HELD(STALE) is read to be reported again, log 23). The lag state and everything else stay. -/
def Claim.CalCommitPutsTheStagedRecordInPlace : Prop :=
  ∀ (h : Header) (s : State), Taken .calCommit h s →
    (∀ m : Nat, 3 < m → exec (.calCommit h (.ok m)) s = .next (answered h .calCommit .badValue .none s)) ∧
    ∀ n : Head,
      (s.cal.staged[n] = none → exec (.calCommit h (.ok n.val)) s = .next (answered h .calCommit .notFound .none s)) ∧
      ∀ r : CalRecord, s.cal.staged[n] = some r →
        (∀ c, s.occ.active[n] = some c → (∀ w, c.state ≠ .held w) →
          exec (.calCommit h (.ok n.val)) s = .next (answered h .calCommit .inUse .none s)) ∧
        ((∀ c, s.occ.active[n] = some c → ∃ w, c.state = .held w) → recordOk r = false →
          exec (.calCommit h (.ok n.val)) s = .next (answered h .calCommit .badValue .none s)) ∧
        (recordOk r = true → ∀ (v : Nat) (t : State),
          v = (if s.settings.cal[n].version = 65535 then 1 else s.settings.cal[n].version + 1) →
          t = { s with
            settings := { s.settings with cal := s.settings.cal.set n { record := r, version := v } }
            cal := { s.cal with staged := s.cal.staged.set n none } } →
          (s.occ.active[n] = none → exec (.calCommit h (.ok n.val)) s = .next (answered h .calCommit .done .none t)) ∧
          ∀ c w, s.occ.active[n] = some c → c.state = .held w → RoomFor 2 s →
            exec (.calCommit h (.ok n.val)) s = .next (noted (.contextStale c.tag c.head c.version v true)
              (answered h .calCommit .done .none
                { t with
                  occ := { s.occ with
                    active := s.occ.active.set n (some
                      { c with
                        state := .held .stale
                        flags := { c.flags with stale := true } }) } })))

/-- CAL_DISCARD: the head's staged record becomes absent, whether there was one or not, and nothing else changes; a head outside 0 to
3 is refused (R25). -/
def Obligations.CalDiscardLeavesNoStagedRecord : Prop :=
  ∀ (h : Header) (s : State), Taken .calDiscard h s →
    (∀ m : Nat, 3 < m → exec (.calDiscard h (.ok m)) s = .next (answered h .calDiscard .badValue .none s)) ∧
    ∀ n : Head, exec (.calDiscard h (.ok n.val)) s = .next (answered h .calDiscard .done .none
      { s with cal := { s.cal with staged := s.cal.staged.set n none } })

/-- CAL_READ: a head, choice, part or index outside its range is refused, and STAGED without a staged record is not found; otherwise
the reply carries the committed version, whether a staged record exists, and the part asked for. Nothing changes (R28). -/
def Obligations.CalReadReportsARecord : Prop :=
  ∀ (h : Header) (staged : Bool) (part : CalReadPart) (s : State), Taken .calRead h s →
    exec (.calRead h .malformed) s = .next (answered h .calRead .badValue .none s) ∧
    (∀ m : Nat, 3 < m → exec (.calRead h (.ok ⟨m, staged, part⟩)) s = .next (answered h .calRead .badValue .none s)) ∧
    ∀ n : Head,
      (∀ k, part = .table k → (k = 0 ∨ 32 < k) →
        exec (.calRead h (.ok ⟨n.val, staged, part⟩)) s = .next (answered h .calRead .badValue .none s)) ∧
      ((∀ k, part = .table k → 1 ≤ k ∧ k ≤ 32) →
        (staged = true → s.cal.staged[n] = none →
          exec (.calRead h (.ok ⟨n.val, staged, part⟩)) s = .next (answered h .calRead .notFound .none s)) ∧
        ∀ r : CalRecord, (staged = false → r = s.settings.cal[n].record) → (staged = true → s.cal.staged[n] = some r) →
          exec (.calRead h (.ok ⟨n.val, staged, part⟩)) s = .next (answered h .calRead .done
            (.calRead s.settings.cal[n].version s.cal.staged[n].isSome
              (match part with
                | .table k => .table r.intervals.length r.upper ((r.intervals.drop (k - 1)).take 8)
                | .tilt => .tilt r.tilt
                | .temperature => .temperature r.temp)) s))

/-! ## Clock and tide pages (chapter 3) -/

/-- A step of the survey clock moves the silence expiries, the settle and limit expiries, the gathering timers, the flush expiries and
the anchors by the step, moves the start of a stretch of RUNNING with them so that the duration leaves the step out, and
changes nothing else (R41, R8, R78). -/
def Claim.ClockStepMovesTimersAndAnchors : Prop :=
  ∀ (d : Int) (s t : State), t = applyStep d s →
    t = { s with ports := t.ports, occ := { s.occ with active := t.occ.active }, groups := t.groups, batches := t.batches } ∧
    (∀ n : Head, t.ports[n] =
        { s.ports[n] with
          state := match s.ports[n].state with
            | .live e => .live (e + d)
            | .off => .off
            | .awaiting => .awaiting
            | .silent => .silent
          anchor := s.ports[n].anchor.map fun a => { a with time := a.time + d } } ∧
      t.batches[n] = { s.batches[n] with expiry := s.batches[n].expiry.map fun e => e + d } ∧
      t.occ.active[n] = s.occ.active[n].map fun c =>
        { c with
          state := match c.state with
            | .settling e => .settling (e + d)
            | .running b e => .running (b + d) (e.map fun x => x + d)
            | .waiting => .waiting
            | .held r => .held r
            | .complete r => .complete r
            | .parked => .parked }) ∧
    ∀ g : Group, t.groups[g] = { s.groups[g] with timer := s.groups[g].timer.map fun e => e + d }

/-- The page set at a step of the clock: every READY page whose span end is at or before the new time is retired, in slot order, each
with its RETIRED notice and source 4, and then the tide state is evaluated once: NO_TIME while UNSET, AVAILABLE when a READY page
contains now and LAPSED otherwise, a change joined by its notice and, for LAPSED, source 5 (R54, R52, R51). A notice joins, or is
lost and counted when no entry is free or a RESTART is pending (R142, R146, R185); the one that brings the count to the high mark
begins congestion and raises source 7 (R144). -/
def Claim.PageStepRetiresThenEvaluates : Prop :=
  ∀ s : State,
    pageStep s = evalTide (retireEnded (retireEnded (retireEnded s 0) 1) 2) ∧
    (∀ k : PageSlotId,
      ((∀ p, s.pages.slots[k] = .ready p → s.clock.time < p.start + 1000 * p.length) → retireEnded s k = s) ∧
      ∀ p, s.pages.slots[k] = .ready p → p.start + 1000 * p.length ≤ s.clock.time →
        retireEnded s k = raise 4 (offerNotice (.pageRetired p.number p.start p.length k)
          { s with pages := { s.pages with slots := s.pages.slots.set k .empty } })) ∧
    (s.clock.state = .unset → evalTide s = { s with pages := { s.pages with tide := .noTime } }) ∧
    (s.clock.state ≠ .unset → PageLaw s →
      (∀ (k : PageSlotId) (p : Page), s.pages.slots[k] = .ready p → p.start ≤ s.clock.time →
        s.clock.time < p.start + 1000 * p.length →
        (s.pages.tide = .available → evalTide s = s) ∧
        (s.pages.tide ≠ .available → evalTide s = offerNotice (.pageAvailable p.number p.start p.length)
          { s with pages := { s.pages with tide := .available } })) ∧
      ((∀ (k : PageSlotId) (p : Page), s.pages.slots[k] = .ready p →
          s.clock.time < p.start ∨ p.start + 1000 * p.length ≤ s.clock.time) →
        (s.pages.tide = .lapsed → evalTide s = s) ∧
        (s.pages.tide ≠ .lapsed → evalTide s = raise 5 (offerNotice .pageLapsed
          { s with pages := { s.pages with tide := .lapsed } })))) ∧
    ∀ x : Notice,
      (RoomFor 1 s → s.sys.restartPending = false → offerNotice x s = noted x s) ∧
      (s.out.queue.length < 48 → s.sys.restartPending = false → s.out.congested = false →
        s.settings.high ≤ s.out.queue.length + 1 →
        offerNotice x s = raise 7 (noted x s) ∧ (noted x s).out.congested = true) ∧
      ((48 ≤ s.out.queue.length ∨ s.sys.restartPending = true) → offerNotice x s = lost s)

/-- SET_TIME: a time beyond 48 bits is refused, and one while a context gathers; otherwise the clock is SET at the new time, the reply
joins, then the STEPPED notice with the step, the timers move (R41), and the page set handles the step (R54): pages that have
ended by the new time are retired and the tide state is evaluated. What source 4 or 5 then does is the event unit's (R40). -/
def Claim.SetTimeStepsTheClock : Prop :=
  ∀ (h : Header) (t : Nat) (s : State), Taken .setTime h s →
    (281474976710655 < t → exec (.setTime h (.ok t)) s = .next (answered h .setTime .badValue .none s)) ∧
    (t ≤ 281474976710655 → (∃ (n : Head) (c : Context), s.occ.active[n] = some c ∧ gathering c = true) →
      exec (.setTime h (.ok t)) s = .next (answered h .setTime .inUse .none s)) ∧
    (t ≤ 281474976710655 → (∀ (n : Head) c, s.occ.active[n] = some c → gathering c = false) → RoomFor 2 s →
      exec (.setTime h (.ok t)) s = .next (drain (pageStep (noted (.clockStepped t ((t : Int) - s.clock.time))
        (answered h .setTime .done .none (applyStep ((t : Int) - s.clock.time) { s with clock := { time := t, state := .set } }))))))

/-- TIME_MARK: ignored while UNSET; inside the window the clock is snapped to the whole second, LOCKED with its loss timer 10 s on, a
clock that was SET reporting LOCKED and raising source 6, and the timers and pages follow the step; outside the window a LOCKED
clock becomes SET with its notice, and a SET one stays as it is (R42, R43). -/
def Claim.TimeMarkSnapsOrUnlocks : Prop :=
  ∀ (s : State) (r : Nat), Quiet s → RoomFor 1 s → s.sys.restartPending = false → r = s.clock.time % 1000 →
    (s.clock.state = .unset → exec .timeMark s = .next s) ∧
    (∀ (second : Nat) (d : Int) (snapped : Int → State), ((r ≤ 50 ∧ second = s.clock.time - r ∧ d = -(r : Int)) ∨
        (950 ≤ r ∧ second = s.clock.time + 1000 - r ∧ d = 1000 - (r : Int))) →
      (∀ e, snapped e = { s with clock := { time := second, state := .locked e } }) →
      (s.clock.state = .set → exec .timeMark s = .next (latchNext (pageStep (applyStep d
        (raise 6 (noted (.clockLocked second d) (snapped ((second : Int) + 10000)))))))) ∧
      (∀ e, s.clock.state = .locked e →
        exec .timeMark s = .next (latchNext (pageStep (applyStep d (snapped ((second : Int) + 10000))))))) ∧
    (50 < r → r < 950 →
      (s.clock.state = .set → exec .timeMark s = .next s) ∧
      ∀ e, s.clock.state = .locked e →
        exec .timeMark s = .next (noted (.clockUnlocked (.markOff r)) { s with clock := { s.clock with state := .set } }))

/-- LOSS_EXPIRY: a LOCKED clock whose loss timer is due becomes SET, its time kept, with the MARK_LOST notice (R44). -/
def Claim.LossExpiryUnlocksTheClock : Prop :=
  ∀ (s : State) (e : Int), s.clock.state = .locked e → e ≤ s.clock.time → Quiet s → RoomFor 1 s → s.sys.restartPending = false →
    exec .lossExpiry s = .next (noted (.clockUnlocked .markLost) { s with clock := { s.clock with state := .set } })

/-- PAGE_RETIREMENT: a READY page whose span end the running clock has reached leaves its slot, the RETIRED notice joins, source 4 is
raised, and the tide state is evaluated: AVAILABLE stays where another READY page contains now, and otherwise LAPSED is entered
with its notice and source 5 (R52, R51). -/
def Claim.PageRetirementEmptiesTheSlot : Prop :=
  ∀ (s t : State) (k : PageSlotId) (p : Page), PageLaw s → s.pages.slots[k] = .ready p → s.clock.state ≠ .unset →
    p.start + 1000 * p.length ≤ s.clock.time → RoomFor 2 s → s.sys.restartPending = false →
    t = raise 4 (noted (.pageRetired p.number p.start p.length k)
      { s with pages := { s.pages with slots := s.pages.slots.set k .empty } }) →
    ((∃ (j : PageSlotId) (q : Page), s.pages.slots[j] = .ready q ∧ q.start ≤ s.clock.time ∧ s.clock.time < q.start + 1000 * q.length) →
      s.pages.tide = .available → exec (.pageRetirement k) s = .next (latchNext t)) ∧
    ((∀ (j : PageSlotId) (q : Page), s.pages.slots[j] = .ready q → s.clock.time < q.start ∨ q.start + 1000 * q.length ≤ s.clock.time) →
      s.pages.tide = .available → exec (.pageRetirement k) s = .next (latchNext (raise 5 (noted .pageLapsed
        { t with pages := { t.pages with tide := .lapsed } }))))

/-- SPAN_START: with the clock running and the tide state LAPSED, a READY page that contains now makes it AVAILABLE with its notice
(R53, R51). -/
def Claim.SpanStartMakesTheTideAvailable : Prop :=
  ∀ (s : State) (k : PageSlotId) (p : Page), PageLaw s → s.pages.slots[k] = .ready p → s.clock.state ≠ .unset →
    s.pages.tide = .lapsed → p.start ≤ s.clock.time → s.clock.time < p.start + 1000 * p.length → Quiet s → RoomFor 1 s →
    s.sys.restartPending = false →
    exec .spanStart s = .next (noted (.pageAvailable p.number p.start p.length)
      { s with pages := { s.pages with tide := .available } })

/-- PAGE_OPEN: the grounds in order; then the lowest-numbered EMPTY slot is FILLING with the page and no constituent, and the reply
gives the slot (R46). -/
def Claim.PageOpenFillsTheLowestEmptySlot : Prop :=
  ∀ (h : Header) (p : PageOpenParams) (s : State) (ok : Prop), Taken .pageOpen h s →
    (ok ↔ 1 ≤ p.number ∧ p.number ≤ 255 ∧ 3600 ≤ p.length ∧ p.length ≤ 259200 ∧ p.start + 1000 * p.length ≤ 281474976710655) →
    (¬ ok → exec (.pageOpen h (.ok p)) s = .next (answered h .pageOpen .badValue .none s)) ∧
    (ok → (∃ (k : PageSlotId) (q : Page), slotPage s.pages.slots[k] = some q ∧ q.number = p.number) →
      exec (.pageOpen h (.ok p)) s = .next (answered h .pageOpen .existing .none s)) ∧
    (ok → (∀ (k : PageSlotId) (q : Page), slotPage s.pages.slots[k] = some q → q.number ≠ p.number) →
      ((∀ k : PageSlotId, s.pages.slots[k] ≠ .empty) →
        exec (.pageOpen h (.ok p)) s = .next (answered h .pageOpen .full .none s)) ∧
      ∀ k : PageSlotId, s.pages.slots[k] = .empty → (∀ j < k, s.pages.slots[j] ≠ .empty) →
        exec (.pageOpen h (.ok p)) s = .next (answered h .pageOpen .done (.pageOpened k)
          { s with
            pages := { s.pages with
              slots := s.pages.slots.set k
                (.filling { number := p.number, start := p.start, length := p.length, terms := [] }) } }))

/-- PAGE_ADD: the grounds in order; then the constituents are appended to the FILLING page, and the reply gives the new length
(R47). Page numbers are taken to be unique among the slots, as PAGE_OPEN keeps them. -/
def Claim.PageAddAppendsConstituents : Prop :=
  ∀ (h : Header) (p : PageAddParams) (s : State) (ok : Prop), Taken .pageAdd h s →
    (ok ↔ 1 ≤ p.number ∧ p.number ≤ 255 ∧ 1 ≤ p.terms.length ∧ p.terms.length ≤ 8 ∧ ∀ c ∈ p.terms,
      (1 ≤ c.code ∧ c.code ≤ 255) ∧ c.species ≤ 3 ∧ c.amplitude ≤ 200000 ∧ (0 ≤ c.argument ∧ c.argument ≤ 3599999) ∧
        (0 ≤ c.speed ∧ c.speed ≤ 600000)) →
    (¬ ok → exec (.pageAdd h (.ok p)) s = .next (answered h .pageAdd .badValue .none s)) ∧
    (ok → (∀ (k : PageSlotId) (q : Page), slotPage s.pages.slots[k] = some q → q.number ≠ p.number) →
      exec (.pageAdd h (.ok p)) s = .next (answered h .pageAdd .notFound .none s)) ∧
    ∀ (k : PageSlotId) (q : Page), ok → q.number = p.number →
      (∀ (j : PageSlotId) (x : Page), slotPage s.pages.slots[j] = some x → x.number = p.number → j = k) →
      (s.pages.slots[k] = .ready q → exec (.pageAdd h (.ok p)) s = .next (answered h .pageAdd .wrongState .none s)) ∧
      (s.pages.slots[k] = .filling q → 24 < q.terms.length + p.terms.length →
        exec (.pageAdd h (.ok p)) s = .next (answered h .pageAdd .full .none s)) ∧
      (s.pages.slots[k] = .filling q → q.terms.length + p.terms.length ≤ 24 →
        exec (.pageAdd h (.ok p)) s = .next (answered h .pageAdd .done (.pageLength (q.terms.length + p.terms.length))
          { s with
            pages := { s.pages with slots := s.pages.slots.set k (.filling { q with terms := q.terms ++ p.terms }) } }))

/-- PAGE_COMMIT of a FILLING page: refused when its list is empty, repeats a code or its span has passed for a running clock, and with
OVERLAP against a READY page; otherwise it is READY, the reply joins, and the tide state follows: nothing while UNSET or when the
page does not change which state the time is in, AVAILABLE with its notice when it contains now and the state was LAPSED (R48,
R51). -/
def Claim.PageCommitMakesAPageReady : Prop :=
  ∀ (h : Header) (s t : State) (k : PageSlotId) (p : Page), Taken .pageCommit h s → 1 ≤ p.number → p.number ≤ 255 →
    (∀ (j : PageSlotId) (x : Page), slotPage s.pages.slots[j] = some x → x.number = p.number → j = k) →
    t = { s with pages := { s.pages with slots := s.pages.slots.set k (.ready p) } } →
    (s.pages.slots[k] = .ready p → exec (.pageCommit h (.ok p.number)) s = .next (answered h .pageCommit .wrongState .none s)) ∧
    (s.pages.slots[k] = .filling p →
      ((p.terms = [] ∨ ¬ (p.terms.map fun c => c.code).Nodup ∨
          s.clock.state ≠ .unset ∧ p.start + 1000 * p.length ≤ s.clock.time) →
        exec (.pageCommit h (.ok p.number)) s = .next (answered h .pageCommit .badValue .none s)) ∧
      (p.terms ≠ [] → (p.terms.map fun c => c.code).Nodup →
        (s.clock.state = .unset ∨ s.clock.time < p.start + 1000 * p.length) →
        ((∃ (j : PageSlotId) (q : Page), s.pages.slots[j] = .ready q ∧ pagesOverlap p q = true) →
          exec (.pageCommit h (.ok p.number)) s = .next (answered h .pageCommit .overlap .none s)) ∧
        ((∀ (j : PageSlotId) (q : Page), s.pages.slots[j] = .ready q → pagesOverlap p q = false) →
          (s.clock.state = .unset → s.pages.tide = .noTime →
            exec (.pageCommit h (.ok p.number)) s = .next (answered h .pageCommit .done .none t)) ∧
          (s.clock.state ≠ .unset → s.pages.tide = .lapsed → p.start ≤ s.clock.time → RoomFor 2 s →
            exec (.pageCommit h (.ok p.number)) s = .next (noted (.pageAvailable p.number p.start p.length)
              (answered h .pageCommit .done .none { t with pages := { t.pages with tide := .available } }))) ∧
          (s.clock.state ≠ .unset → s.clock.time < p.start → s.pages.tide = .lapsed →
            (∀ (j : PageSlotId) (q : Page), s.pages.slots[j] = .ready q →
              s.clock.time < q.start ∨ q.start + 1000 * q.length ≤ s.clock.time) →
            exec (.pageCommit h (.ok p.number)) s = .next (answered h .pageCommit .done .none t)) ∧
          (s.clock.state ≠ .unset → s.pages.tide = .available →
            (∃ (j : PageSlotId) (q : Page), s.pages.slots[j] = .ready q ∧ q.start ≤ s.clock.time ∧
              s.clock.time < q.start + 1000 * q.length) →
            exec (.pageCommit h (.ok p.number)) s = .next (answered h .pageCommit .done .none t)))))

/-- PAGE_COMMIT of a number outside 1 to 255 is refused with BAD_VALUE, and of one that no FILLING or READY page carries with NOT_FOUND
(R48, grounds 1 and 2). -/
def Claim.PageCommitNeedsAPage : Prop :=
  ∀ (h : Header) (s : State) (m : Nat), Taken .pageCommit h s →
    ((m = 0 ∨ 255 < m) → exec (.pageCommit h (.ok m)) s = .next (answered h .pageCommit .badValue .none s)) ∧
    (1 ≤ m → m ≤ 255 → (∀ (j : PageSlotId) (q : Page), slotPage s.pages.slots[j] = some q → q.number ≠ m) →
      exec (.pageCommit h (.ok m)) s = .next (answered h .pageCommit .notFound .none s))

/-- PAGE_DROP: a number out of range is refused, one that no page carries is not found; otherwise the slot is EMPTY. Dropping a READY
page that contains now, with the tide AVAILABLE, makes it LAPSED with its notice and source 5; a drop of a FILLING page, while the
clock is UNSET, or of a page that does not contain now, does not change the tide state (R49, R51). -/
def Claim.PageDropEmptiesTheSlot : Prop :=
  ∀ (h : Header) (s t : State) (k : PageSlotId) (p : Page), Taken .pageDrop h s → PageLaw s →
    (∀ m : Nat, (m = 0 ∨ 255 < m) → exec (.pageDrop h (.ok m)) s = .next (answered h .pageDrop .badValue .none s)) ∧
    (∀ m : Nat, 1 ≤ m → m ≤ 255 → (∀ (j : PageSlotId) (q : Page), slotPage s.pages.slots[j] = some q → q.number ≠ m) →
      exec (.pageDrop h (.ok m)) s = .next (answered h .pageDrop .notFound .none s)) ∧
    (1 ≤ p.number → p.number ≤ 255 →
      (∀ (j : PageSlotId) (x : Page), slotPage s.pages.slots[j] = some x → x.number = p.number → j = k) →
      t = { s with pages := { s.pages with slots := s.pages.slots.set k .empty } } →
      ((s.pages.slots[k] = .filling p ∨ s.pages.slots[k] = .ready p ∧ s.clock.state = .unset ∧ s.pages.tide = .noTime) →
        exec (.pageDrop h (.ok p.number)) s = .next (answered h .pageDrop .done .none t)) ∧
      (s.pages.slots[k] = .ready p → s.clock.state ≠ .unset → s.pages.tide = .available → p.start ≤ s.clock.time →
        s.clock.time < p.start + 1000 * p.length → RoomFor 2 s →
        exec (.pageDrop h (.ok p.number)) s = .next (drain (raise 5 (noted .pageLapsed (answered h .pageDrop .done .none
          { t with pages := { t.pages with tide := .lapsed } }))))) ∧
      (s.pages.slots[k] = .ready p → s.clock.state ≠ .unset →
        (s.clock.time < p.start ∨ p.start + 1000 * p.length ≤ s.clock.time) →
        (s.pages.tide = .available ∧ (∃ (j : PageSlotId) (q : Page), s.pages.slots[j] = .ready q ∧ q.start ≤ s.clock.time ∧
            s.clock.time < q.start + 1000 * q.length) ∨
          s.pages.tide = .lapsed ∧ ∀ (j : PageSlotId) (q : Page), s.pages.slots[j] = .ready q →
            s.clock.time < q.start ∨ q.start + 1000 * q.length ≤ s.clock.time) →
        exec (.pageDrop h (.ok p.number)) s = .next (answered h .pageDrop .done .none t)))

/-- PAGE_LIST: a page number or index out of range is refused, a page that no slot holds is not found; otherwise the reply gives the
time, the clock and tide states, every slot, and up to 8 constituents of the page asked for. Nothing changes (R50). -/
def Claim.PageListReportsThePages : Prop :=
  ∀ (h : Header) (s : State) (slots : List SlotReport), Taken .pageList h s →
    slots = [slotReport s.pages.slots[0], slotReport s.pages.slots[1], slotReport s.pages.slots[2]] →
    (∀ number index : Nat, (number = 0 ∨ 255 < number ∨ index = 0 ∨ 24 < index) →
      exec (.pageList h (.ok (some (number, index)))) s = .next (answered h .pageList .badValue .none s)) ∧
    (∀ number index : Nat, 1 ≤ number → number ≤ 255 → 1 ≤ index → index ≤ 24 →
      ((∀ (j : PageSlotId) (q : Page), slotPage s.pages.slots[j] = some q → q.number ≠ number) →
        exec (.pageList h (.ok (some (number, index)))) s = .next (answered h .pageList .notFound .none s)) ∧
      ∀ (k : PageSlotId) (p : Page), slotPage s.pages.slots[k] = some p → p.number = number →
        (∀ (j : PageSlotId) (x : Page), slotPage s.pages.slots[j] = some x → x.number = number → j = k) →
        exec (.pageList h (.ok (some (number, index)))) s = .next (answered h .pageList .done
          (.pageList s.clock.time s.clock.state s.pages.tide slots (some ((p.terms.drop (index - 1)).take 8))) s)) ∧
    exec (.pageList h (.ok none)) s = .next (answered h .pageList .done
      (.pageList s.clock.time s.clock.state s.pages.tide slots none) s)

/-- TIDE_QUERY: the grounds in order; otherwise the reply gives the tide correction of the station at the time over the READY page
that contains it, the page's number and the time. Nothing changes (R57, R55, R56; the value is formed to 40 places, log 9). -/
def Claim.TideQueryEvaluatesTheTide : Prop :=
  ∀ (h : Header) (station : Nat) (time : Option Nat) (s : State) (t : Nat), Taken .tideQuery h s → PageLaw s →
    t = time.getD s.clock.time →
    ((station = 0 ∨ 16777215 < station ∨ 281474976710655 < t) →
      exec (.tideQuery h (.ok ⟨station, time⟩)) s = .next (answered h .tideQuery .badValue .none s)) ∧
    (1 ≤ station → station ≤ 16777215 → t ≤ 281474976710655 →
      (findStation s.table station = none →
        exec (.tideQuery h (.ok ⟨station, time⟩)) s = .next (answered h .tideQuery .notFound .none s)) ∧
      ∀ r, findStation s.table station = some r →
        ((∀ (j : PageSlotId) (q : Page), s.pages.slots[j] = .ready q → t < q.start ∨ q.start + 1000 * q.length ≤ t) →
          exec (.tideQuery h (.ok ⟨station, time⟩)) s = .next (answered h .tideQuery .noTide .none s)) ∧
        ∀ (k : PageSlotId) (p : Page), s.pages.slots[k] = .ready p → p.start ≤ t → t < p.start + 1000 * p.length →
          exec (.tideQuery h (.ok ⟨station, time⟩)) s = .next (answered h .tideQuery .done
            (.tide (tideCorrection r p t) p.number t) s))

/-! ## The station table (chapter 4) -/

/-- STN_PUT: the grounds in order; a new number is placed STORED with count 0 and clear marks, at the empty primary place or, with a
free entry, at the tail of its chain; a known one takes the fields carried, is STORED, and keeps its count, marks and place. No
other record changes (R64, R65, R59, R60). -/
def Obligations.StnPutPlacesOrReplacesARecord : Prop :=
  ∀ (h : Header) (p : StnPutParams) (s : State) (b : Bucket), Taken .stnPut h s → TableLaw s.table →
    b = s.table.buckets[bucketIndex p.station] →
    (stnPutOk p = false → exec (.stnPut h (.ok p)) s = .next (answered h .stnPut .badValue .none s)) ∧
    (stnPutOk p = true →
      (∀ r, findStation s.table p.station = some r →
        (0 < r.refs → r.pos ≠ p.pos → exec (.stnPut h (.ok p)) s = .next (answered h .stnPut .locked .none s)) ∧
        ((r.refs = 0 ∨ r.pos = p.pos) → ∃ t : StationTable,
          exec (.stnPut h (.ok p)) s = .next (answered h .stnPut .done
            (.stationPut false (p.station % 64) (stationPosition s.table p.station)) { s with table := t }) ∧
          findStation t p.station = some { r with origin := .stored, pos := p.pos, delta := p.delta, adjust := p.adjust } ∧
          (∀ m, m ≠ p.station → findStation t m = findStation s.table m) ∧ t.free = s.table.free ∧
          ∀ m, stationPosition t m = stationPosition s.table m)) ∧
      (findStation s.table p.station = none →
        (b.primary ≠ none → s.table.free = 0 → exec (.stnPut h (.ok p)) s = .next (answered h .stnPut .full .none s)) ∧
        ((b.primary = none ∨ 0 < s.table.free) → ∃ t : StationTable,
          exec (.stnPut h (.ok p)) s = .next (answered h .stnPut .done
            (.stationPut true (p.station % 64) (bucketRecords b).length) { s with table := t }) ∧
          findStation t p.station = some
            { number := p.station
              origin := .stored
              pos := p.pos
              delta := p.delta
              adjust := p.adjust
              refs := 0
              current := false
              previous := false } ∧
          (∀ m, m ≠ p.station → findStation t m = findStation s.table m) ∧
          t.free = (if b.primary = none then s.table.free else s.table.free - 1) ∧
          stationPosition t p.station = (bucketRecords b).length ∧
          ∀ m, (findStation s.table m).isSome → stationPosition t m = stationPosition s.table m)))

/-- STN_DELETE: the grounds in order; otherwise the record is removed, the others of its bucket keep their order with the first of
them in the primary place, an entry a promotion or an unlinking leaves returns to the free list, and every other bucket is as it
was (R66, R61). -/
def Claim.StnDeleteRemovesARecord : Prop :=
  ∀ (h : Header) (m : Nat) (s : State) (b : Bucket), Taken .stnDelete h s → TableLaw s.table →
    b = s.table.buckets[bucketIndex m] →
    ((m = 0 ∨ 16777215 < m) → exec (.stnDelete h (.ok m)) s = .next (answered h .stnDelete .badValue .none s)) ∧
    (1 ≤ m → m ≤ 16777215 →
      (findStation s.table m = none → exec (.stnDelete h (.ok m)) s = .next (answered h .stnDelete .notFound .none s)) ∧
      ∀ r, findStation s.table m = some r →
        (0 < r.refs → exec (.stnDelete h (.ok m)) s = .next (answered h .stnDelete .locked .none s)) ∧
        (r.refs = 0 → ∃ t : StationTable,
          exec (.stnDelete h (.ok m)) s = .next (answered h .stnDelete .done .none { s with table := t }) ∧
          bucketRecords t.buckets[bucketIndex m] = (bucketRecords b).filter (fun x => x.number != m) ∧
          (t.buckets[bucketIndex m].primary = none → bucketRecords t.buckets[bucketIndex m] = []) ∧
          (∀ k, k ≠ bucketIndex m → t.buckets[k] = s.table.buckets[k]) ∧
          t.free = (if b.chain = [] then s.table.free else s.table.free + 1)))

/-- STN_AGE: every LEARNED record without a reference and with both marks clear is removed; in every other the previous mark takes the
current one, which is cleared; the reply counts those removed and those left (R71). -/
def Claim.StnAgeRemovesUnusedLearnedRecords : Prop :=
  ∀ (h : Header) (s : State), Taken .stnAge h s → TableLaw s.table →
    ∃ t : StationTable,
      exec (.stnAge h (.ok ())) s = .next (answered h .stnAge .done
        (.stationAge ((allRecords s.table).length - (allRecords t).length) (allRecords t).length) { s with table := t }) ∧
      TableLaw t ∧
      ∀ k : Fin 64, bucketRecords t.buckets[k] =
        ((bucketRecords s.table.buckets[k]).filter fun r =>
          !(r.origin == .learned && r.refs == 0 && !r.current && !r.previous)).map fun r =>
            { r with previous := r.current, current := false }

/-- STN_GET: a number out of range is refused, one that no record carries is not found; otherwise the reply carries every field of the
record and its location, bucket and chain position. Nothing changes (R67). -/
def Obligations.StnGetReportsTheRecord : Prop :=
  ∀ (h : Header) (m : Nat) (s : State), Taken .stnGet h s →
    ((m = 0 ∨ 16777215 < m) → exec (.stnGet h (.ok m)) s = .next (answered h .stnGet .badValue .none s)) ∧
    (1 ≤ m → m ≤ 16777215 → (∀ r ∈ bucketRecords s.table.buckets[bucketIndex m], r.number ≠ m) →
      exec (.stnGet h (.ok m)) s = .next (answered h .stnGet .notFound .none s)) ∧
    ∀ (k : Nat) (r : StationRecord), 1 ≤ m → m ≤ 16777215 → (bucketRecords s.table.buckets[bucketIndex m])[k]? = some r →
      r.number = m → (∀ j < k, ∀ x, (bucketRecords s.table.buckets[bucketIndex m])[j]? = some x → x.number ≠ m) →
      exec (.stnGet h (.ok m)) s = .next (answered h .stnGet .done (.station r (m % 64) k) s)

/-- STN_LIST: a starting point out of range is refused; otherwise the reply gives the totals, among them the held primary places and the
free entries, the first 12 records at or after the starting bucket and position in table order, and, where more remain, the
location of the next one. Nothing changes (R68). -/
def Claim.StnListReportsTheTable : Prop :=
  ∀ (h : Header) (p : StnListParams) (s : State) (walk : List StationSummary), Taken .stnList h s →
    walk = (List.finRange 64).flatMap (fun k =>
      ((bucketRecords s.table.buckets[k]).zipIdx.filter fun x =>
        decide (p.bucket < k.val ∨ p.bucket = k.val ∧ p.position ≤ x.2)).map fun x =>
          { number := x.1.number
            origin := x.1.origin
            refs := x.1.refs
            current := x.1.current
            previous := x.1.previous
            bucket := k.val
            position := x.2 }) →
    ((63 < p.bucket ∨ 64 < p.position) → exec (.stnList h (.ok p)) s = .next (answered h .stnList .badValue .none s)) ∧
    (p.bucket ≤ 63 → p.position ≤ 64 → exec (.stnList h (.ok p)) s = .next (answered h .stnList .done
      (.stationList
        { records := (allRecords s.table).length
          stored := ((allRecords s.table).filter fun r => r.origin == .stored).length
          learned := ((allRecords s.table).filter fun r => r.origin == .learned).length
          primaries := ((List.finRange 64).filter fun k => s.table.buckets[k].primary.isSome).length
          free := s.table.free
          summaries := walk.take 12
          continuation := (walk.drop 12).head?.map fun x => (x.bucket, x.position) }) s)) ∧
    ((allRecords s.table).filter fun r => r.origin == .stored).length +
      ((allRecords s.table).filter fun r => r.origin == .learned).length = (allRecords s.table).length

/-! ## Contexts and joint groups (chapters 5 and 7) -/

/-- Entering a state: SETTLING starts the settle timer; RUNNING starts the limit timer at the limit less the running duration and raises
the segment count by 1, or makes it 1 at a first entry, and keeps it at a later entry from HELD; leaving RUNNING adds the stretch
to the duration; HELD(STALE) sets the flag (R78, R79, R95). -/
def Claim.ContextEntriesKeepTimersDurationAndSegments : Prop :=
  ∀ (t : Nat) (c : Context),
    settled t c = { c with state := .settling ((t : Int) + 1000 * c.policy.settle) } ∧
    (∀ w, c.state = .held w → running t c =
      { c with
        state := .running t (if c.policy.runLimit = 0 then none
          else some ((t : Int) + 1000 * c.policy.runLimit - c.acc.duration))
        acc := { c.acc with segments := if c.acc.segments = 0 then 1 else c.acc.segments } }) ∧
    ((∀ w, c.state ≠ .held w) → running t c =
      { c with
        state := .running t (if c.policy.runLimit = 0 then none
          else some ((t : Int) + 1000 * c.policy.runLimit - c.acc.duration))
        acc := { c.acc with segments := min (c.acc.segments + 1) 65535 } }) ∧
    (∀ b e, c.state = .running b e → leaveState t c = { c.acc with duration := c.acc.duration + ((t : Int) - b).toNat }) ∧
    ((∀ b e, c.state ≠ .running b e) → leaveState t c = c.acc) ∧
    stale c = { c with state := .held .stale, flags := { c.flags with stale := true } }

/-- SETTLE_EXPIRY: a context whose settle timer is due enters RUNNING, or arrives at its group; a settle time of 0 carries a context
through SETTLING in the same event (R82). -/
def Claim.SettleExpiryStartsRunningOrArrives : Prop :=
  ∀ (n : Head) (s : State) (c : Context) (e : Int), s.occ.active[n] = some c → c.state = .settling e →
    (e ≤ s.clock.time → Quiet s →
      (c.group = none → exec (.settleExpiry n) s = .next
        { s with occ := { s.occ with active := s.occ.active.set n (some (running s.clock.time c)) } }) ∧
      ∀ g, c.group = some g → exec (.settleExpiry n) s = .next (latchNext (arrive n c g s))) ∧
    (c.policy.settle ≠ 0 → passSettle n s = s) ∧
    (c.policy.settle = 0 →
      (c.group = none → passSettle n s =
        { s with occ := { s.occ with active := s.occ.active.set n (some (running s.clock.time c)) } }) ∧
      ∀ g, c.group = some g → passSettle n s = arrive n c g s)

/-- An arrival at a group: the member is WAITING at the tail of the list; the first starts the gathering timer; the one that brings the
list to the target releases the group: the run number rises, wrapping from 65535 to 1, every member on the list enters RUNNING with
it and with now as its joint start, the list is empty, the timer stops, and the notice names the members; every other slot is as it
was, an empty one empty (R134, R135). -/
def Claim.ArrivalGathersOrReleasesTheGroup : Prop :=
  ∀ (n : Head) (c : Context) (g : Group) (s : State) (j : JointGroup) (w : Occupations), s.occ.active[n] = some c →
    j = s.groups[g] → w = { s.occ with active := s.occ.active.set n (some { c with state := .waiting }) } →
    (j.arrivals.length + 1 < s.settings.groups[g].target → arrive n c g s =
      { s with
        occ := w
        groups := s.groups.set g
          { j with
            arrivals := j.arrivals ++ [c.tag]
            timer := if j.arrivals = [] then some ((s.clock.time : Int) + 1000 * s.settings.groups[g].waitLimit)
              else j.timer } }) ∧
    (s.settings.groups[g].target ≤ j.arrivals.length + 1 → ActiveTagsDistinct s.occ → (j.arrivals ++ [c.tag]).Nodup →
      RoomFor 1 s → s.sys.restartPending = false →
      ∃ (run : Nat) (o : Occupations), run = (if j.run = 65535 then 1 else j.run + 1) ∧
        arrive n c g s = noted (.jointRelease g run s.clock.time (membersOf w (j.arrivals ++ [c.tag])))
          { s with occ := o, groups := s.groups.set g { arrivals := [], timer := none, run := run } } ∧
        o.store = s.occ.store ∧ o.waiting = s.occ.waiting ∧ (∀ m : Head, w.active[m] = none → o.active[m] = none) ∧
        ∀ (m : Head) (d : Context), w.active[m] = some d →
          (d.tag ∈ j.arrivals ++ [c.tag] → o.active[m] = some (running s.clock.time
            { d with acc := { d.acc with joint := some (run, s.clock.time) } })) ∧
          (d.tag ∉ j.arrivals ++ [c.tag] → o.active[m] = some d))

/-- GATHERING_EXPIRY: every member on the list enters RUNNING with UNJOINED, the run number stays, the group is IDLE, and the notice
names the members; every other slot is as it was, an empty one empty (R136). -/
def Claim.GatheringExpiryReleasesUnjoined : Prop :=
  ∀ (g : Group) (s : State) (j : JointGroup) (e : Int), j = s.groups[g] → j.timer = some e → e ≤ s.clock.time → Quiet s →
    RoomFor 1 s → s.sys.restartPending = false → ActiveTagsDistinct s.occ → j.arrivals.Nodup →
    ∃ o : Occupations,
      exec (.gatheringExpiry g) s = .next (noted (.unjoined g (membersOf s.occ j.arrivals))
        { s with occ := o, groups := s.groups.set g { arrivals := [], timer := none, run := j.run } }) ∧
      o.store = s.occ.store ∧ o.waiting = s.occ.waiting ∧ (∀ m : Head, s.occ.active[m] = none → o.active[m] = none) ∧
      ∀ (m : Head) (d : Context), s.occ.active[m] = some d →
        (d.tag ∈ j.arrivals → o.active[m] = some (running s.clock.time
          { d with flags := { d.flags with unjoined := true } })) ∧
        (d.tag ∉ j.arrivals → o.active[m] = some d)

/-- A context that leaves its group's list: the others keep their order, and an emptied list stops the timer (R137). -/
def Claim.LeavingTheArrivalListKeepsTheOthers : Prop :=
  ∀ (c : Context) (s : State),
    (c.group = none → leaveList c s = s) ∧
    ∀ g, c.group = some g →
      (c.tag ∉ s.groups[g].arrivals → leaveList c s = s) ∧
      (c.tag ∈ s.groups[g].arrivals → ∀ l, l = s.groups[g].arrivals.filter (fun x => x != c.tag) → leaveList c s =
        { s with
          groups := s.groups.set g
            { arrivals := l
              timer := if l = [] then none else s.groups[g].timer
              run := s.groups[g].run } })

/-- The grounds of OCC_OPEN in their order: BAD_VALUE, EXISTS, WRONG_STATE, IN_USE, and then the station table's NOT_FOUND, MISMATCH
and FULL; a refused OCC_OPEN changes nothing but the queue (R80, R69). -/
def Claim.OccOpenIsRefusedInOrder : Prop :=
  ∀ (h : Header) (p : OccOpenParams) (s : State), Taken .occOpen h s →
    ((3 < p.head ∨ p.tag = 0 ∨ p.station = 0 ∨ 16777215 < p.station ∨ policyOk (combine s.settings.policy p.items) = false ∨
        inlineOk p.inline = false) →
      exec (.occOpen h (.ok p)) s = .next (answered h .occOpen .badValue .none s)) ∧
    ∀ n : Head, p.head = n.val → p.tag ≠ 0 → p.tag ≤ 65535 → 1 ≤ p.station → p.station ≤ 16777215 →
      policyOk (combine s.settings.policy p.items) = true → inlineOk p.inline = true →
      ((findTag s.occ p.tag).isSome → exec (.occOpen h (.ok p)) s = .next (answered h .occOpen .existing .none s)) ∧
      (findTag s.occ p.tag = none →
        ((∀ e, s.ports[n].state ≠ .live e) → exec (.occOpen h (.ok p)) s = .next (answered h .occOpen .wrongState .none s)) ∧
        ∀ e, s.ports[n].state = .live e →
          (s.occ.active[n].isSome → exec (.occOpen h (.ok p)) s = .next (answered h .occOpen .inUse .none s)) ∧
          (s.occ.active[n] = none →
            (findStation s.table p.station = none → p.inline = none →
              exec (.occOpen h (.ok p)) s = .next (answered h .occOpen .notFound .none s)) ∧
            (∀ r x, findStation s.table p.station = some r → p.inline = some x → x.1 ≠ r.pos →
              exec (.occOpen h (.ok p)) s = .next (answered h .occOpen .mismatch .none s)) ∧
            (findStation s.table p.station = none → p.inline.isSome → hasRoom s.table p.station = false →
              exec (.occOpen h (.ok p)) s = .next (answered h .occOpen .full .none s))))

/-- OCC_OPEN that passes: the station is referenced and marked, or learned; the context stands in its head's slot with the head's
version, its policy from the items carried and the defaults, empty accumulators and no flag, in its entry state; the reply says so,
and a settle time of 0 is then passed through (R81, R70, R75, R82). -/
def Claim.OccOpenCreatesTheContext : Prop :=
  ∀ (h : Header) (p : OccOpenParams) (n : Head) (s : State) (c : Context), Taken .occOpen h s → TableLaw s.table →
    p.head = n.val → groundOccOpen p s = none →
    c =
      { tag := p.tag
        head := n
        station := p.station
        state := match p.entry with
          | .settling => .settling ((s.clock.time : Int) + 1000 * (combine s.settings.policy p.items).settle)
          | .held => .held .command
        policy := combine s.settings.policy p.items
        group := p.group
        wake := p.wake
        hold := p.hold
        version := s.settings.cal[n].version
        acc := emptyAccumulators
        flags := { unjoined := false, stale := false, faultHeld := false, tidePartial := false } } →
    ∃ (t : StationTable) (a : State),
      a = answered h .occOpen .done (.opened (findStation s.table p.station).isSome s.settings.cal[n].version p.entry
        (if p.entry = .settling then some ((s.clock.time : Int) + 1000 * c.policy.settle) else none))
        { s with
          table := t
          occ := { s.occ with active := s.occ.active.set n (some c) } } ∧
      (p.entry = .held → exec (.occOpen h (.ok p)) s = .next a) ∧
      (p.entry = .settling → exec (.occOpen h (.ok p)) s = .next (drain (passSettle n a))) ∧
      (∀ r, findStation s.table p.station = some r →
        findStation t p.station = some { r with refs := r.refs + 1, current := true }) ∧
      (findStation s.table p.station = none → ∀ x, p.inline = some x → findStation t p.station = some
        { number := p.station
          origin := .learned
          pos := x.1
          delta := x.2.getD 1160
          adjust := []
          refs := 1
          current := true
          previous := false }) ∧
      ∀ m, m ≠ p.station → findStation t m = findStation s.table m

/-- OCC_HOLD: the grounds in order; then the gathering context is HELD(COMMAND), its timers stopped, its running stretch added, and it
leaves its group's list (R91, R90). -/
def Claim.OccHoldHoldsAGatheringContext : Prop :=
  ∀ (h : Header) (tag : Nat) (s : State), Taken .occHold h s →
    (tag = 0 → exec (.occHold h (.ok tag)) s = .next (answered h .occHold .badValue .none s)) ∧
    (tag ≠ 0 → findTag s.occ tag = none → exec (.occHold h (.ok tag)) s = .next (answered h .occHold .notFound .none s)) ∧
    ∀ (q : Place) (c : Context), tag ≠ 0 → findTag s.occ tag = some (q, c) →
      (gathering c = false → exec (.occHold h (.ok tag)) s = .next (answered h .occHold .wrongState .none s)) ∧
      ∀ n : Head, q = .active n → gathering c = true → exec (.occHold h (.ok tag)) s = .next (answered h .occHold .done .none
        (leaveList c
          { s with
            occ := { s.occ with
              active := s.occ.active.set n (some { c with state := .held .command, acc := leaveState s.clock.time c }) } }))

/-- OCC_RELEASE: the grounds in order; then the reply joins and the held context enters SETTLING, passing through it at once where the
settle time is 0, or RUNNING, as its policy says (R93, R92). -/
def Claim.OccReleaseReleasesAHeldContext : Prop :=
  ∀ (h : Header) (tag : Nat) (s : State), Taken .occRelease h s →
    (tag = 0 → exec (.occRelease h (.ok tag)) s = .next (answered h .occRelease .badValue .none s)) ∧
    (tag ≠ 0 → findTag s.occ tag = none → exec (.occRelease h (.ok tag)) s = .next (answered h .occRelease .notFound .none s)) ∧
    ∀ (q : Place) (c : Context), tag ≠ 0 → findTag s.occ tag = some (q, c) →
      (c.state = .held .stale → exec (.occRelease h (.ok tag)) s = .next (answered h .occRelease .stale .none s)) ∧
      ((∀ w, c.state ≠ .held w) → exec (.occRelease h (.ok tag)) s = .next (answered h .occRelease .wrongState .none s)) ∧
      ∀ (n : Head) (w : HoldReason), q = .active n → c.state = .held w → w ≠ .stale →
        (c.policy.resettle = true → exec (.occRelease h (.ok tag)) s = .next (drain (passSettle n
          (answered h .occRelease .done .none
            { s with occ := { s.occ with active := s.occ.active.set n (some (settled s.clock.time c)) } })))) ∧
        (c.policy.resettle = false → exec (.occRelease h (.ok tag)) s = .next (answered h .occRelease .done .none
          { s with occ := { s.occ with active := s.occ.active.set n (some (running s.clock.time c)) } }))

/-- OCC_CLOSE of an active context: refused for tag 0, an unknown tag and a COMPLETE context; otherwise the reply joins, then, where
an entry is left, the reading of the context, COMPLETE by COMMAND now, and the context is freed: its slot is empty, its station
loses a reference, and a correction that copied it is unbound. With no entry left it waits in COMPLETE (R97, R96, R98, R99). -/
def Claim.OccCloseCompletesAnActiveContext : Prop :=
  ∀ (h : Header) (tag : Nat) (s : State), Taken .occClose h s →
    (tag = 0 → exec (.occClose h (.ok tag)) s = .next (answered h .occClose .badValue .none s)) ∧
    (tag ≠ 0 → findTag s.occ tag = none → exec (.occClose h (.ok tag)) s = .next (answered h .occClose .notFound .none s)) ∧
    ∀ (n : Head) (c d : Context), tag ≠ 0 → findTag s.occ tag = some (.active n, c) →
      (∀ w, c.state = .complete w → exec (.occClose h (.ok tag)) s = .next (answered h .occClose .wrongState .none s)) ∧
      ((∀ w, c.state ≠ .complete w) → s.occ.waiting = [] →
        d = { c with
          state := .complete .command
          acc := { leaveState s.clock.time c with completion := some s.clock.time } } →
        (RoomFor 2 s → exec (.occClose h (.ok tag)) s = .next (told (.reading (makeReading d .command))
          (answered h .occClose .done .none
            { s with
              occ := { s.occ with active := s.occ.active.set n none }
              groups := (leaveList c s).groups
              table := updateStation c.station dropReference s.table
              corr := (unbindTag c.tag s).corr }))) ∧
        (s.out.queue.length = 47 → exec (.occClose h (.ok tag)) s = .next (answered h .occClose .done .none
          { s with
            occ := { s.occ with active := s.occ.active.set n (some d), waiting := [n] }
            groups := (leaveList c s).groups })))

/-- OCC_CLOSE of a parked context: BUSY without two free entries, and otherwise the reply and the reading join and the context is freed
out of the store (R116). -/
def Claim.OccCloseEndsAParkedContext : Prop :=
  ∀ (h : Header) (tag : Nat) (s : State) (k : StoreSlotId) (c : Context), Taken .occClose h s → tag ≠ 0 →
    findTag s.occ tag = some (.stored k, c) →
    (s.out.queue.length = 47 → exec (.occClose h (.ok tag)) s = .next (answered h .occClose .busy .none s)) ∧
    (RoomFor 2 s → exec (.occClose h (.ok tag)) s = .next
      (told (.reading (makeReading { c with acc := { c.acc with completion := some s.clock.time } } .command))
        (answered h .occClose .done .none
          { s with
            occ := { s.occ with store := s.occ.store.set k none }
            table := updateStation c.station dropReference s.table
            corr := (unbindTag c.tag s).corr })))

/-- OCC_ABORT: refused for tag 0 and an unknown tag; otherwise the context, active in any state or parked, is freed without a reading,
the reply joins, and then the ABORTED notice (R100, R117, R99). -/
def Claim.OccAbortFreesTheContext : Prop :=
  ∀ (h : Header) (tag : Nat) (s : State), Taken .occAbort h s →
    (tag = 0 → exec (.occAbort h (.ok tag)) s = .next (answered h .occAbort .badValue .none s)) ∧
    (tag ≠ 0 → findTag s.occ tag = none → exec (.occAbort h (.ok tag)) s = .next (answered h .occAbort .notFound .none s)) ∧
    ∀ (q : Place) (c : Context), tag ≠ 0 → findTag s.occ tag = some (q, c) → RoomFor 2 s →
      (∀ n : Head, q = .active n → exec (.occAbort h (.ok tag)) s = .next
        (noted (.aborted c.tag c.head c.station (stateName c.state) c.acc.accepted) (answered h .occAbort .done .none
          { s with
            occ := { s.occ with
              active := s.occ.active.set n none
              waiting := s.occ.waiting.filter fun m => m != n }
            groups := (leaveList c s).groups
            table := updateStation c.station dropReference s.table
            corr := (unbindTag c.tag s).corr }))) ∧
      ∀ k : StoreSlotId, q = .stored k → exec (.occAbort h (.ok tag)) s = .next
        (noted (.aborted c.tag c.head c.station (stateName c.state) c.acc.accepted) (answered h .occAbort .done .none
          { s with
            occ := { s.occ with store := s.occ.store.set k none }
            table := updateStation c.station dropReference s.table
            corr := (unbindTag c.tag s).corr }))

/-- OCC_QUERY: without a tag, a summary of every live context, active ones in head order and then parked ones in slot order; with a
tag, the context in full, or BAD_VALUE for 0 and NOT_FOUND for one that no live context carries. Nothing changes (R103). -/
def Obligations.OccQueryReportsContexts : Prop :=
  ∀ (h : Header) (s : State), Taken .occQuery h s →
    exec (.occQuery h (.ok (some 0))) s = .next (answered h .occQuery .badValue .none s) ∧
    exec (.occQuery h (.ok none)) s = .next (answered h .occQuery .done
      (.contexts ((liveContexts s.occ).map fun x =>
        { tag := x.2.tag
          head := x.2.head
          station := x.2.station
          state := stateName x.2.state
          accepted := x.2.acc.accepted })) s) ∧
    ∀ tag : Nat, tag ≠ 0 →
      (findTag s.occ tag = none →
        exec (.occQuery h (.ok (some tag))) s = .next (answered h .occQuery .notFound .none s)) ∧
      ∀ (q : Place) (c : Context), findTag s.occ tag = some (q, c) →
        exec (.occQuery h (.ok (some tag))) s = .next (answered h .occQuery .done
          (.context
            { tag := c.tag
              head := c.head
              station := c.station
              state := c.state
              policy := c.policy
              group := c.group
              wake := c.wake
              hold := c.hold
              version := c.version
              flags := c.flags
              acc := leaveState s.clock.time c
              mean := meanOf c.acc.gravity c.acc.accepted
              stdErr := standardError c.acc
              meanTilt := meanOf c.acc.tilt c.acc.accepted
              meanTemp := meanOf c.acc.temp c.acc.accepted
              meanTide := meanOf c.acc.tide (c.acc.accepted - c.acc.tideAbsent)
              slot := match q with
                | .active _ => none
                | .stored k => some k }) s)

/-! ## Parking, swapping, cloning (chapter 6) -/

/-- OCC_PARK: the grounds in order; then the context leaves its head for the lowest-numbered empty store slot in PARKED, every item
kept, its running stretch added, its place on an arrival list given up; the reply reports what it left (R107, R108, R106). -/
def Claim.OccParkMovesAContextIntoTheStore : Prop :=
  ∀ (h : Header) (tag : Nat) (s : State), Taken .occPark h s →
    (tag = 0 → exec (.occPark h (.ok tag)) s = .next (answered h .occPark .badValue .none s)) ∧
    (tag ≠ 0 → findTag s.occ tag = none → exec (.occPark h (.ok tag)) s = .next (answered h .occPark .notFound .none s)) ∧
    ∀ (q : Place) (c : Context), tag ≠ 0 → findTag s.occ tag = some (q, c) →
      ((c.state = .parked ∨ ∃ w, c.state = .complete w) →
        exec (.occPark h (.ok tag)) s = .next (answered h .occPark .wrongState .none s)) ∧
      (c.state ≠ .parked → (∀ w, c.state ≠ .complete w) →
        ((∀ k : StoreSlotId, s.occ.store[k].isSome) →
          exec (.occPark h (.ok tag)) s = .next (answered h .occPark .full .none s)) ∧
        ∀ (n : Head) (k : StoreSlotId), q = .active n → s.occ.store[k] = none → (∀ j < k, s.occ.store[j].isSome) →
          exec (.occPark h (.ok tag)) s = .next (answered h .occPark .done
            (.parked k (stateName c.state) c.acc.accepted (leaveState s.clock.time c).duration)
            { s with
              occ := { s.occ with
                active := s.occ.active.set n none
                store := s.occ.store.set k (some { c with state := .parked, acc := leaveState s.clock.time c }) }
              groups := (leaveList c s).groups }))

/-- The context that becomes active again is HELD(STALE) when its recorded version is not its head's or it already carries STALE, and
otherwise enters the resume mode of its policy (R109). -/
def Claim.ResumedContextsMeetTheCalibration : Prop :=
  ∀ (t version : Nat) (c : Context),
    ((c.version ≠ version ∨ c.flags.stale = true) → resumed t version c = stale c) ∧
    (c.version = version → c.flags.stale = false →
      (c.policy.resume = .settling → resumed t version c = settled t c) ∧
      (c.policy.resume = .held → resumed t version c = { c with state := .held .command }))

/-- OCC_UNPARK: the grounds in order; then the context stands in its head's slot as resumed, its store slot is empty, its station is
marked as used, the reply reports it, and a STALE notice or a settle time of 0 follows (R110, R111, R109, R63). -/
def Claim.OccUnparkMakesAContextActive : Prop :=
  ∀ (h : Header) (tag : Nat) (s : State), Taken .occUnpark h s →
    (tag = 0 → exec (.occUnpark h (.ok tag)) s = .next (answered h .occUnpark .badValue .none s)) ∧
    (tag ≠ 0 → findTag s.occ tag = none → exec (.occUnpark h (.ok tag)) s = .next (answered h .occUnpark .notFound .none s)) ∧
    (∀ (n : Head) (c : Context), tag ≠ 0 → findTag s.occ tag = some (.active n, c) →
      exec (.occUnpark h (.ok tag)) s = .next (answered h .occUnpark .wrongState .none s)) ∧
    ∀ (k : StoreSlotId) (c : Context), tag ≠ 0 → findTag s.occ tag = some (.stored k, c) →
      ((∀ e, s.ports[c.head].state ≠ .live e) →
        exec (.occUnpark h (.ok tag)) s = .next (answered h .occUnpark .wrongState .none s)) ∧
      ∀ e, s.ports[c.head].state = .live e →
        (s.occ.active[c.head].isSome → exec (.occUnpark h (.ok tag)) s = .next (answered h .occUnpark .inUse .none s)) ∧
        (s.occ.active[c.head] = none → ∀ (v : Nat) (d : Context) (a : State), v = s.settings.cal[c.head].version →
          d = resumed s.clock.time v c →
          a = answered h .occUnpark .done (.unparked k (stateName d.state) c.version v (settleExpiryOf d))
            { s with
              occ := { s.occ with
                active := s.occ.active.set c.head (some d)
                store := s.occ.store.set k none }
              table := updateStation c.station (markUsed 0) s.table } →
          ((c.version ≠ v ∨ c.flags.stale = true) → RoomFor 2 s →
            exec (.occUnpark h (.ok tag)) s = .next (noted (.contextStale c.tag c.head c.version v false) a)) ∧
          (c.version = v → c.flags.stale = false → c.policy.resume = .held →
            exec (.occUnpark h (.ok tag)) s = .next a) ∧
          (c.version = v → c.flags.stale = false → c.policy.resume = .settling →
            exec (.occUnpark h (.ok tag)) s = .next (drain (passSettle c.head a))))

/-- OCC_SWAP: the grounds in order; then the active context takes the parked one's slot in PARKED and the parked one becomes active on
the head as resumed, its station marked as used; the reply reports it, and a STALE notice or a settle time of 0 follows (R112,
R113, R106, R109, R63). -/
def Claim.OccSwapExchangesTwoContexts : Prop :=
  ∀ (h : Header) (p : OccSwapParams) (s : State), Taken .occSwap h s →
    ((p.active = 0 ∨ p.parked = 0 ∨ p.active = p.parked) →
      exec (.occSwap h (.ok p)) s = .next (answered h .occSwap .badValue .none s)) ∧
    (p.active ≠ 0 → p.parked ≠ 0 → p.active ≠ p.parked →
      ((findTag s.occ p.active = none ∨ findTag s.occ p.parked = none) →
        exec (.occSwap h (.ok p)) s = .next (answered h .occSwap .notFound .none s)) ∧
      ∀ (x y : Place) (a b : Context), findTag s.occ p.active = some (x, a) → findTag s.occ p.parked = some (y, b) →
        ((a.state = .parked ∨ (∃ w, a.state = .complete w) ∨ ∃ n, y = .active n) →
          exec (.occSwap h (.ok p)) s = .next (answered h .occSwap .wrongState .none s)) ∧
        ∀ (n : Head) (k : StoreSlotId), x = .active n → y = .stored k → a.state ≠ .parked → (∀ w, a.state ≠ .complete w) →
          (a.head ≠ b.head → exec (.occSwap h (.ok p)) s = .next (answered h .occSwap .wrongHead .none s)) ∧
          (a.head = b.head → b.head = n → ∀ (v : Nat) (d : Context) (t : State), v = s.settings.cal[n].version →
            d = resumed s.clock.time v b →
            t = answered h .occSwap .done (.swapped k (stateName d.state) b.version v (settleExpiryOf d))
              { s with
                occ := { s.occ with
                  active := s.occ.active.set n (some d)
                  store := s.occ.store.set k (some { a with state := .parked, acc := leaveState s.clock.time a }) }
                groups := (leaveList a s).groups
                table := updateStation b.station (markUsed 0) s.table } →
            ((b.version ≠ v ∨ b.flags.stale = true) → RoomFor 2 s →
              exec (.occSwap h (.ok p)) s = .next (noted (.contextStale b.tag b.head b.version v false) t)) ∧
            (b.version = v → b.flags.stale = false → b.policy.resume = .held →
              exec (.occSwap h (.ok p)) s = .next t) ∧
            (b.version = v → b.flags.stale = false → b.policy.resume = .settling →
              exec (.occSwap h (.ok p)) s = .next (drain (passSettle n t)))))

/-- OCC_CLONE: the grounds in order; then a new context stands on the target head with the source's station, policy, group and sets,
the head's version, empty accumulators and no flag, in SETTLING; the station gains a reference and its mark; the source is as it
was; the reply reports the clone, and a settle time of 0 is then passed through (R114, R115, R62, R63). -/
def Claim.OccCloneCopiesTheSource : Prop :=
  ∀ (h : Header) (p : OccCloneParams) (s : State), Taken .occClone h s →
    ((p.source = 0 ∨ p.tag = 0 ∨ 3 < p.head) →
      exec (.occClone h (.ok p)) s = .next (answered h .occClone .badValue .none s)) ∧
    ∀ n : Head, p.head = n.val → p.source ≠ 0 → p.tag ≠ 0 → p.tag ≤ 65535 →
      (findTag s.occ p.source = none → exec (.occClone h (.ok p)) s = .next (answered h .occClone .notFound .none s)) ∧
      ∀ (q : Place) (c : Context), findTag s.occ p.source = some (q, c) →
        ((findTag s.occ p.tag).isSome → exec (.occClone h (.ok p)) s = .next (answered h .occClone .existing .none s)) ∧
        (findTag s.occ p.tag = none →
          ((∀ e, s.ports[n].state ≠ .live e) →
            exec (.occClone h (.ok p)) s = .next (answered h .occClone .wrongState .none s)) ∧
          ∀ e, s.ports[n].state = .live e →
            (s.occ.active[n].isSome → exec (.occClone h (.ok p)) s = .next (answered h .occClone .inUse .none s)) ∧
            (s.occ.active[n] = none → exec (.occClone h (.ok p)) s = .next (drain (passSettle n
              (answered h .occClone .done (.cloned p.tag n s.settings.cal[n].version
                  ((s.clock.time : Int) + 1000 * c.policy.settle))
                { s with
                  table := updateStation c.station (markUsed 1) s.table
                  occ := { s.occ with
                    active := s.occ.active.set n (some
                      { tag := p.tag
                        head := n
                        station := c.station
                        state := .settling ((s.clock.time : Int) + 1000 * c.policy.settle)
                        policy := c.policy
                        group := c.group
                        wake := c.wake
                        hold := c.hold
                        version := s.settings.cal[n].version
                        acc := emptyAccumulators
                        flags := { unjoined := false, stale := false, faultHeld := false, tidePartial := false } }) } })))))

/-! ## Head ports, arbiter and corrections (chapters 1 and 2) -/

/-- HEAD_FRAME at a head that is not OFF and holds no byte. A valid frame makes the head LIVE with its silence timer restarted, sets the
anchor where it is offset-setting, and pushes its sample, stamped through the anchor, with its flags and pending marks; the
expectation is the next counter; a full partition drops the sample, counts it and sets OVERRUN. A frame that fails, with no sync
byte inside it, counts a link error and sets LINK_ERROR. An OFF head discards every byte (R1, R2, R5, R6, R7, R8, R9, R10). -/
def Claim.HeadFrameIsDecodedAndPushed : Prop :=
  ∀ (n : Head) (bytes : List Byte) (s : State) (p : HeadPort), p = s.ports[n] → Quiet s →
    (p.state = .off → exec (.headFrame n bytes) s = .next s) ∧
    (p.state ≠ .off → p.rx = { buf := [], rescan := 0, junk := false } → bytes.length = 21 → bytes.head? = some 0x5A#8 →
      (headFrameValid bytes = false → 0x5A#8 ∉ bytes.tail → exec (.headFrame n bytes) s = .next (latchNext
        (setCause n .linkError
          { s with ports := s.ports.set n { p with linkErrors := min (p.linkErrors + 1) 65535 } }))) ∧
      (headFrameValid bytes = true → ∀ (f : HeadFrame) (a : Anchor) (fresh first restart : Bool) (expected : Option Byte)
          (gap : Option Nat) (x : Sample) (q : HeadPort), f = decodeHeadFrame bytes →
        fresh = (!f.backlog || f.restarted || p.anchor.isNone) →
        a = (if fresh then { tick := f.tick, time := (s.clock.time : Int) - s.settings.heads[n].latency } else p.anchor.getD a) →
        first = (p.firstMark || p.state == .awaiting || p.state == .silent) → restart = (p.restartMark || f.restarted) →
        expected = (if f.restarted then none else p.expected) →
        gap = expected.bind (fun e => if e = f.counter then none else some (f.counter - e).toNat) →
        x =
          { head := n
            counter := f.counter
            tick := f.tick
            time := stamp (a.time + tickDifference f.tick a.tick)
            raw := f.raw
            tiltX := f.tiltX
            tiltY := f.tiltY
            temp := f.temp
            gap := gap
            backlog := f.backlog
            restart := restart
            headStatus := f.sensorFault || f.ovenUnstable
            timeUnset := s.clock.state == .unset
            firstOfRun := first } →
        q = { p with
          state := .live ((s.clock.time : Int) + 1000 * s.settings.heads[n].silence)
          anchor := some a } →
        f.sensorFault = false → f.ovenUnstable = false →
        (s.partitions[n].length < Config.share s.settings.plan n → exec (.headFrame n bytes) s = .next (latchNext (grant
          { s with
            partitions := s.partitions.set n (s.partitions[n] ++ [x])
            ports := s.ports.set n
              { q with
                expected := some (f.counter + 1)
                firstMark := false
                restartMark := false
                gaps := if gap.isSome then min (p.gaps + 1) 65535 else p.gaps } }))) ∧
        (Config.share s.settings.plan n ≤ s.partitions[n].length → exec (.headFrame n bytes) s = .next (latchNext (grant
          (setCause n .overrun
            { s with
              ports := s.ports.set n
                { q with
                  expected := expected
                  firstMark := first
                  restartMark := restart
                  overruns := min (p.overruns + 1) 65535 } }))))))

/-- HEAD_FRAME with SENSOR_FAULT or OVEN_UNSTABLE: HEAD_STATUS is set, with what follows from it, before the sample, which carries the
flag, is pushed (R9). A push into a partition below its share appends the sample, uses up the marks, counts a gap and expects the next
counter; one into a full partition drops it, counts it and sets OVERRUN (R10, R5, R6). -/
def Claim.HeadStatusIsSetBeforeThePush : Prop :=
  ∀ (n : Head) (s : State),
    (∀ (bytes : List Byte) (f : HeadFrame) (p q : HeadPort) (a : Anchor) (x : Sample), p = s.ports[n] → p.state ≠ .off →
      p.rx = { buf := [], rescan := 0, junk := false } → bytes.length = 21 → headFrameValid bytes = true → bytes.head? = some 0x5A#8 →
      f = decodeHeadFrame bytes → (f.sensorFault = true ∨ f.ovenUnstable = true) →
      a = (if f.backlog = false ∨ f.restarted = true ∨ p.anchor = none then
        { tick := f.tick, time := (s.clock.time : Int) - s.settings.heads[n].latency } else p.anchor.getD a) →
      q = { p with
        state := .live ((s.clock.time : Int) + 1000 * s.settings.heads[n].silence)
        anchor := some a
        firstMark := p.firstMark || p.state == .awaiting || p.state == .silent
        restartMark := p.restartMark || f.restarted
        expected := if f.restarted then none else p.expected } →
      x =
        { head := n
          counter := f.counter
          tick := f.tick
          time := stamp (a.time + tickDifference f.tick a.tick)
          raw := f.raw
          tiltX := f.tiltX
          tiltY := f.tiltY
          temp := f.temp
          gap := q.expected.bind fun e => if e = f.counter then none else some (f.counter - e).toNat
          backlog := f.backlog
          restart := q.restartMark
          headStatus := true
          timeUnset := s.clock.state == .unset
          firstOfRun := q.firstMark } →
      exec (.headFrame n bytes) s = .next (latchNext (grant (pushSample n x
        (setCause n .headStatus { s with ports := s.ports.set n q }))))) ∧
    ∀ x : Sample,
      (s.partitions[n].length < Config.share s.settings.plan n → pushSample n x s =
        { s with
          partitions := s.partitions.set n (s.partitions[n] ++ [x])
          ports := s.ports.set n
            { s.ports[n] with
              expected := some (x.counter + 1)
              firstMark := false
              restartMark := false
              gaps := if x.gap.isSome then min (s.ports[n].gaps + 1) 65535 else s.ports[n].gaps } }) ∧
      (Config.share s.settings.plan n ≤ s.partitions[n].length → pushSample n x s = setCause n .overrun
        { s with ports := s.ports.set n { s.ports[n] with overruns := min (s.ports[n].overruns + 1) 65535 } })

/-- A frame may arrive in pieces: a piece that begins with the sync byte and is short of a frame waits in the receiver, and what
arrives after it acts as if the two had arrived together (R1). -/
def Claim.HeadFramesArriveInPieces : Prop :=
  ∀ (n : Head) (first : List Byte) (s t : State), s.ports[n].state ≠ .off →
    s.ports[n].rx = { buf := [], rescan := 0, junk := false } → first.head? = some 0x5A#8 → first.length < 21 → Quiet s →
    t = { s with ports := s.ports.set n { s.ports[n] with rx := { buf := first, rescan := 0, junk := false } } } →
    exec (.headFrame n first) s = .next t ∧ ∀ rest : List Byte, exec (.headFrame n rest) t = exec (.headFrame n (first ++ rest)) s

/-- A fault cause joins the head's status set once: then a FAULT notice joins if the cause is in the notify set, and then, if it is in
the halt set and the head's context gathers, the context is HELD(FAULT) with FAULT_HELD and its notice. A cause already in the set
does nothing (R16, R17, R94, R90). -/
def Claim.FaultCauseNotifiesAndHalts : Prop :=
  ∀ (n : Head) (f : FaultCause) (s t u : State) (st : BitVec 5), RoomFor 2 s → s.sys.restartPending = false →
    st = s.ports[n].status ||| BitVec.twoPow 5 (causeIndex f) →
    t = { s with ports := s.ports.set n { s.ports[n] with status := st } } →
    u = (if s.settings.heads[n].notify.getLsbD (causeIndex f) then noted (.fault n f st) t else t) →
    (s.ports[n].status.getLsbD (causeIndex f) = true → setCause n f s = s) ∧
    (s.ports[n].status.getLsbD (causeIndex f) = false →
      ((s.settings.heads[n].halt.getLsbD (causeIndex f) = false ∨ s.occ.active[n] = none ∨
          ∃ c, s.occ.active[n] = some c ∧ gathering c = false) → setCause n f s = u) ∧
      (s.settings.heads[n].halt.getLsbD (causeIndex f) = true → ∀ c, s.occ.active[n] = some c → gathering c = true →
        setCause n f s = noted (.contextHold c.tag c.head (stateName c.state) (.cause f))
          { u with
            occ := { s.occ with
              active := s.occ.active.set n (some
                { c with
                  state := .held .fault
                  acc := leaveState s.clock.time c
                  flags := { c.flags with faultHeld := true } }) }
            groups := (leaveList c s).groups }))

/-- SILENCE_EXPIRY: a LIVE head whose timer is due is SILENT, and the cause SILENT is set (R3). -/
def Claim.SilenceExpiryMakesTheHeadSilent : Prop :=
  ∀ (n : Head) (s : State) (e : Int), s.ports[n].state = .live e → e ≤ s.clock.time →
    exec (.silenceExpiry n) s = .next (latchNext (setCause n .silent
      { s with ports := s.ports.set n { s.ports[n] with state := .silent } }))

/-- The arbiter's choice: ROTATING takes the first pending head after the last-served one, itself last; FIXED takes the lowest-numbered
pending head, but the first other pending head after the last-served one once the count has reached the limit; with no last-served
head both take the lowest (R13, R14). -/
def Claim.ArbiterChoosesTheNextHead : Prop :=
  ∀ (s : State) (pending : Head → Bool), (∀ n : Head, pending n = !s.partitions[n].isEmpty) →
    (s.corr.last = none → grantChoice s = ([0, 1, 2, 3] : List Head).find? pending) ∧
    ∀ l : Head, s.corr.last = some l →
      (s.settings.arbMode = .rotating → grantChoice s = [l + 1, l + 2, l + 3, l].find? pending) ∧
      (s.settings.arbMode = .fixed →
        (s.settings.arbLimit ≤ s.corr.service → ([l + 1, l + 2, l + 3].any pending) = true →
          grantChoice s = [l + 1, l + 2, l + 3].find? pending) ∧
        ((s.corr.service < s.settings.arbLimit ∨ ([l + 1, l + 2, l + 3].any pending) = false) →
          grantChoice s = ([0, 1, 2, 3] : List Head).find? pending))

/-- A grant takes the oldest sample of the chosen head out of its partition into a correction that copies the sample, the committed
record and version, the lag state, the bound context, its station's record and the page that contains the sample time; the head
is the last-served one, and the service count follows R14 (R10, R12, R14, R29). -/
def Claim.GrantBeginsACorrection : Prop :=
  ∀ (s : State) (n : Head) (x : Sample) (rest : List Sample) (others : Bool),
    (∀ k, s.corr.inFlight = some k → grant s = s) ∧ (grantChoice s = none → grant s = s) ∧
    (s.corr.inFlight = none → grantChoice s = some n → s.partitions[n] = x :: rest →
      others = ([n + 1, n + 2, n + 3].any fun m => !s.partitions[m].isEmpty) →
      grant s =
        { s with
          partitions := s.partitions.set n rest
          corr :=
            { last := some n
              service := match s.settings.arbMode with
                | .rotating => s.corr.service
                | .fixed =>
                  if others = false then 0 else if s.corr.last = some n then s.corr.service + 1 else 1
              inFlight := some
                { sample := x
                  record := s.settings.cal[n].record
                  version := s.settings.cal[n].version
                  lag := s.cal.lag[n]
                  bound := match s.occ.active[n] with
                    | none => .none
                    | some c => .live c.tag
                  station := s.occ.active[n].bind fun c => findStation s.table c.station
                  page := pageAt s.pages.slots x.time } } })

/-- Tilt, temperature, calibrated and corrected gravity of a correction, in their resolution steps: tilts held to 1,000.0 arc-seconds,
temperature to -40 and +85 degrees, gravity from the interval of the raw count, and the sum with the tide term where it is present
(R30, R34, R35, R36). -/
def Claim.CorrectionFormsTheRecord : Prop :=
  ∀ (k : Correction) (r : SampleRecord), r = (correct k).record →
    r.tiltX = clampInt (-10000) 10000 (roundDiv ((k.sample.tiltX - k.record.tilt.offsetX) * k.record.tilt.sensX) 1000) ∧
    r.tiltY = clampInt (-10000) 10000 (roundDiv ((k.sample.tiltY - k.record.tilt.offsetY) * k.record.tilt.sensY) 1000) ∧
    r.tiltCorr = roundDiv (k.record.tilt.gain * (r.tiltX * r.tiltX + r.tiltY * r.tiltY)) 100000 ∧
    r.tempCorr = roundDiv (-(k.record.temp.alpha * (r.lagged - k.record.temp.reference))) 100000 ∧
    r.calibrated = ((intervalAt k.record.upper k.sample.raw k.record.intervals).map fun i =>
      roundDiv (i.base * 1000 + i.factor * (k.sample.raw - i.lower)) 1000) ∧
    r.tide = (if k.sample.timeUnset then none
      else k.station.bind fun st => k.page.map fun p => tideCorrection st p k.sample.time) ∧
    r.corrected = (r.calibrated.map fun g => g + r.tiltCorr + r.tempCorr + r.tide.getD 0) ∧
    r.version = k.version ∧ r.time = k.sample.time ∧ r.raw = k.sample.raw ∧ r.gap = k.sample.gap ∧
    r.backlog = k.sample.backlog ∧ r.restart = k.sample.restart ∧ r.headStatus = k.sample.headStatus ∧
    r.timeUnset = k.sample.timeUnset ∧ r.head = k.sample.head

/-- Temperature and lag in a correction: the record's temperature is the scaled reading held between -40 and +85 degrees, and its lagged
temperature, the temperature rate and the lag state to be written come from the lag state copied, the temperature and the sample
time, fresh for the first sample of a run and for a RESTART sample (R31, R32, R33). -/
def Claim.CorrectionFormsTemperatureAndLag : Prop :=
  ∀ (k : Correction) (r : SampleRecord), r = (correct k).record →
    r.temp = clampInt (-40000) 85000 (roundDiv ((k.sample.temp - k.record.temp.offset) * k.record.temp.scale) 1000) ∧
    (r.lagged, (correct k).rate, (correct k).lag) =
      lagStep k.record.temp.tau k.lag (k.sample.firstOfRun || k.sample.restart) r.temp k.sample.time

/-- The sensor temperature is the raw reading less the offset, times the scale, rounded to 0.001 degrees halfway away from zero, and
held between -40.000 and +85.000 degrees; the record carries it (R31). -/
def Obligations.SensorTemperatureIsScaledAndHeld : Prop :=
  ∀ (k : Correction) (x : ℚ) (z : Int), x = ((k.sample.temp - k.record.temp.offset) * k.record.temp.scale : Int) / 1000 →
    |x - z| ≤ 1 / 2 → (|x - z| = 1 / 2 → |x| ≤ |(z : ℚ)|) →
    (correct k).record.temp = max (-40000) (min 85000 z)

/-- The lag state and the temperature rate: the first of a run, a RESTART sample and an unset lag state take the temperature itself with
rate 0; time going on moves the lagged temperature by the fraction of tau, or all the way, and gives the rate; time standing still
or going back leaves the lag state with rate 0 (R32, R33). -/
def Claim.LagStateFollowsTheFourCases : Prop :=
  ∀ (tau : Nat) (l : LagState) (temp : Int) (time : Nat) (fresh : Bool),
    lagStep tau none fresh temp time = (temp, 0, some { lagged := temp, temp := temp, time := time }) ∧
    lagStep tau (some l) true temp time = (temp, 0, some { lagged := temp, temp := temp, time := time }) ∧
    (time ≤ l.time → lagStep tau (some l) false temp time = (l.lagged, 0, some l)) ∧
    (l.time < time → ∀ (dt : Nat) (lagged rate : Int), dt = time - l.time →
      rate = roundDiv (|temp - l.temp| * 60000) dt →
      lagged = (if 1000 * tau ≤ dt then temp else roundDiv (l.lagged * (1000 * tau : Nat) + (temp - l.lagged) * dt) (1000 * tau)) →
      lagStep tau (some l) false temp time = (lagged, rate, some { lagged := lagged, temp := temp, time := time }))

/-- Gates of a RUNNING context: the first one failed gives the cause, in the order HEAD_STATUS, CAL_RANGE, TILT, TEMP_RATE, TIDE,
DEVIATION, a quantity equal to its limit passing; a sample that fails none is ACCEPTED (R84, R85). -/
def Obligations.GatesAreTestedInOrder : Prop :=
  ∀ (p : Policy) (a : Accumulators) (r : SampleRecord) (rate g : Int) (c1 c2 c3 c4 c5 c6 : Bool),
    (r.corrected = some g ∨ r.corrected = none ∧ g = 0) → c1 = r.headStatus → c2 = r.calibrated.isNone →
    (0 ≤ p.tiltLimit → c3 = decide ((p.tiltLimit : ℝ) < Real.sqrt ((r.tiltX : ℝ) ^ 2 + (r.tiltY : ℝ) ^ 2))) →
    c4 = decide (p.rateLimit < rate) → c5 = (r.tide.isNone && p.tideRequired) →
    c6 = decide (p.gate ≠ 0 ∧ 10 ≤ a.accepted ∧ (p.gate : ℚ) < |(g : ℚ) - (a.gravity : ℚ) / a.accepted|) →
    0 ≤ p.tiltLimit →
    failedGate p a r rate =
      if c1 then some .headStatus else if c2 then some .calRange else if c3 then some .tilt else if c4 then some .tempRate
      else if c5 then some .tide else if c6 then some .deviation else none

/-- CORRECTION_COMPLETE, for a record that no selector streams and whose raw count lies in the table: with no context bound the record is
UNBOUND; a HELD context of its version discards and counts it; a RUNNING one whose gates it passes, short of the target,
accumulates it. The lag state is written, the record takes the head's sequence number in a ring below its capacity, and the
arbiter makes its next grant (R37, R83, R86, R87, R158). The record is the correction's own where the context is the copied one. -/
def Claim.CorrectionCompleteWithoutStreaming : Prop :=
  ∀ (s : State) (k : Correction) (n : Head) (f : Corrected) (g : Int), s.corr.inFlight = some k → n = k.sample.head →
    f = correct k → f.record.calibrated = some g → Quiet s → (∀ m : Fin 4, s.settings.selectors[m].enable = false) →
    s.archive.rings[n].records.length < 128 * Config.share s.settings.plan n →
    ∀ after : SampleRecord → Vector (Option Context) 4 → State,
      (∀ r o, after r o = grant
        { s with
          occ := { s.occ with active := o }
          cal := { s.cal with lag := s.cal.lag.set n f.lag }
          archive := { s.archive with
            rings := s.archive.rings.set n
              { records := s.archive.rings[n].records ++ [{ r with seq := s.archive.rings[n].counter }]
                counter := (s.archive.rings[n].counter + 1) % 4294967296 } }
          corr := { s.corr with inFlight := none } }) →
      (s.occ.active[n] = none → exec .correctionComplete s = .next
        (after { f.record with disposition := .unbound, tag := none } s.occ.active)) ∧
      ∀ c : Context, s.occ.active[n] = some c → k.bound = .live c.tag →
        ∀ (gaps : Nat), gaps = (if k.sample.gap.isSome then min (c.acc.gaps + 1) 65535 else c.acc.gaps) →
        (k.version ≠ c.version → exec .correctionComplete s = .next
          (after { f.record with disposition := .discarded .stale, tag := some c.tag } s.occ.active)) ∧
        (k.version = c.version → ∀ w, c.state = .held w → exec .correctionComplete s = .next
          (after { f.record with disposition := .discarded .held, tag := some c.tag }
            (s.occ.active.set n (some
              { c with
                acc := { c.acc with
                  discarded := { c.acc.discarded with held := min (c.acc.discarded.held + 1) 65535 }
                  gaps := gaps } })))) ∧
        (k.version = c.version → ∀ b e (y : Int), c.state = .running b e → failedGate c.policy c.acc f.record f.rate = none →
          f.record.corrected = some y → c.acc.accepted + 1 < c.policy.target →
          exec .correctionComplete s = .next
            (after { f.record with disposition := .accepted, tag := some c.tag }
              (s.occ.active.set n (some
                { c with
                  acc := { c.acc with
                    accepted := c.acc.accepted + 1
                    gravity := c.acc.gravity + y
                    squares := c.acc.squares + y * y
                    tilt := c.acc.tilt + f.record.tiltCorr
                    temp := c.acc.temp + f.record.tempCorr
                    tide := c.acc.tide + f.record.tide.getD 0
                    tideAbsent := if f.record.tide.isNone then min (c.acc.tideAbsent + 1) 65535 else c.acc.tideAbsent
                    gaps := gaps
                    first := some (c.acc.first.getD f.record.time)
                    last := some f.record.time
                    least := some (match c.acc.least with
                      | none => y
                      | some m => min m y)
                    greatest := some (match c.acc.greatest with
                      | none => y
                      | some m => max m y) }
                  flags := { c.flags with tidePartial := c.flags.tidePartial || f.record.tide.isNone } }))))

/-- CORRECTION_COMPLETE hands every record on in the order of R37: the tide term of another context's station goes, the bound context
gives the disposition and counts it, the lag state is written, an absent calibrated gravity sets CAL_RANGE (R34), the record takes
its sequence number and joins the ring, and is offered to the selectors; then the correction ends and the arbiter grants. Latching
comes at the end of the step (log 17). -/
def Claim.CorrectionCompleteFollowsTheOrder : Prop :=
  ∀ (s s2 s4 s6 : State) (k : Correction) (n : Head) (r d e : SampleRecord), s.corr.inFlight = some k → n = k.sample.head →
    r = rebound k.bound s.occ.active[n] (correct k).record → d = disposed s.occ.active[n] r (correct k).rate →
    s2 = { disposeIn n d s with cal := { s.cal with lag := s.cal.lag.set n (correct k).lag } } →
    s4 = (if d.calibrated = none then setCause n .calRange s2 else s2) →
    e = { d with seq := s4.archive.rings[n].counter } → s6 = streamRecord e (archiveRecord e s4) →
    exec .correctionComplete s = .next (latchNext (grant { s6 with corr := { s.corr with inFlight := none } }))

/-- Step 1 of R37: the record keeps its tide term when no context is bound, when the copied context still is the bound one, and when
none was copied (its term is absent then, R35); where another context was copied, any tide term is removed and corrected gravity
is formed without it. -/
def Claim.AnotherContextsTideIsRemoved : Prop :=
  ∀ (b : Binding) (o : Option Context) (r : SampleRecord),
    (o = none → rebound b o r = r) ∧ (b = .none → rebound b o r = r) ∧
    ∀ c, o = some c →
      (b = .live c.tag → rebound b o r = r) ∧
      ((b = .freed ∨ ∃ tag, b = .live tag ∧ tag ≠ c.tag) → rebound b o r =
        { r with
          tide := none
          corrected := r.calibrated.map fun g => g + r.tiltCorr + r.tempCorr })

/-- The disposition: UNBOUND without a bound context; else the record carries its tag, and is DISCARDED(STALE) when the versions
differ, DISCARDED by the state's name outside RUNNING, and in RUNNING REJECTED by the first gate failed or ACCEPTED (R83). -/
def Claim.DispositionFollowsVersionAndState : Prop :=
  ∀ (r : SampleRecord) (rate : Int),
    disposed none r rate = { r with disposition := .unbound, tag := none } ∧
    ∀ (c : Context) (d : Disposition),
      ((r.version ≠ c.version ∧ d = .discarded .stale) ∨
        (r.version = c.version ∧
          ((∃ e, c.state = .settling e) ∧ d = .discarded .settling ∨ c.state = .waiting ∧ d = .discarded .waiting ∨
            (∃ w, c.state = .held w) ∧ d = .discarded .held ∨ (∃ w, c.state = .complete w) ∧ d = .discarded .complete ∨
            (∃ b e, c.state = .running b e) ∧ ((∃ cause, failedGate c.policy c.acc r rate = some cause ∧ d = .rejected cause) ∨
              failedGate c.policy c.acc r rate = none ∧ d = .accepted)))) →
      disposed (some c) r rate = { r with disposition := d, tag := some c.tag }

/-- The counts of a sample that is not ACCEPTED: the rejected count of its cause, or the discarded count of SETTLING, WAITING or HELD,
rises by 1, and the gap-sample count with it where the sample carries GAP; DISCARDED(STALE), DISCARDED(COMPLETE) and UNBOUND raise
none (R87, R76). -/
def Claim.CountsFollowTheDisposition : Prop :=
  ∀ (r : SampleRecord) (a : Accumulators) (gaps : Nat),
    gaps = (if r.gap.isSome then min (a.gaps + 1) 65535 else a.gaps) →
    (∀ cause, countDisposition (.rejected cause) r a =
      { a with
        gaps := gaps
        rejected := match cause with
          | .headStatus => { a.rejected with headStatus := min (a.rejected.headStatus + 1) 65535 }
          | .calRange => { a.rejected with calRange := min (a.rejected.calRange + 1) 65535 }
          | .tilt => { a.rejected with tilt := min (a.rejected.tilt + 1) 65535 }
          | .tempRate => { a.rejected with tempRate := min (a.rejected.tempRate + 1) 65535 }
          | .tide => { a.rejected with tide := min (a.rejected.tide + 1) 65535 }
          | .deviation => { a.rejected with deviation := min (a.rejected.deviation + 1) 65535 } }) ∧
    countDisposition (.discarded .settling) r a =
      { a with gaps := gaps, discarded := { a.discarded with settling := min (a.discarded.settling + 1) 65535 } } ∧
    countDisposition (.discarded .waiting) r a =
      { a with gaps := gaps, discarded := { a.discarded with waiting := min (a.discarded.waiting + 1) 65535 } } ∧
    countDisposition (.discarded .held) r a =
      { a with gaps := gaps, discarded := { a.discarded with held := min (a.discarded.held + 1) 65535 } } ∧
    countDisposition (.discarded .complete) r a = a ∧ countDisposition (.discarded .stale) r a = a ∧
    countDisposition .unbound r a = a

/-- What the disposition does in the head's slot: the counts, and TIDE_PARTIAL for an ACCEPTED sample without tide; at the target the
context is COMPLETE(TARGET), and its reading joins and frees it where an entry is free, or waits (R86, R87, R88, R96, R98, R99). -/
def Claim.ReachingTheTargetCompletes : Prop :=
  ∀ (n : Head) (d : SampleRecord) (s : State),
    (s.occ.active[n] = none → disposeIn n d s = s) ∧
    ∀ c c1 x : Context, s.occ.active[n] = some c →
      c1 = { c with
        acc := countDisposition d.disposition d c.acc
        flags := { c.flags with tidePartial := c.flags.tidePartial || (d.disposition == .accepted && d.tide.isNone) } } →
      ((d.disposition ≠ .accepted ∨ c1.acc.accepted < c1.policy.target) → disposeIn n d s =
        { s with occ := { s.occ with active := s.occ.active.set n (some c1) } }) ∧
      (d.disposition = .accepted → c1.policy.target ≤ c1.acc.accepted → s.occ.waiting = [] →
        x = { c1 with
          state := .complete .target
          acc := { leaveState s.clock.time c1 with completion := some s.clock.time } } →
        (RoomFor 1 s → s.sys.restartPending = false → disposeIn n d s = told (.reading (makeReading x .target))
          { s with
            occ := { s.occ with active := s.occ.active.set n none }
            groups := (leaveList c s).groups
            table := updateStation c.station dropReference s.table
            corr := (unbindTag c.tag s).corr }) ∧
        (hasEntry s = false → disposeIn n d s =
          { s with
            occ := { s.occ with active := s.occ.active.set n (some x), waiting := [n] }
            groups := (leaveList c s).groups }))

/-- The append: a ring of capacity 0 receives none; below its capacity the ring grows; at it the oldest record goes, and a dump whose
cursor stood there moves on and counts it as skipped, ending DONE when that covers its range (R157, R158, R165, R166). -/
def Claim.AppendOverwritesTheOldest : Prop :=
  ∀ (r : SampleRecord) (s t : State) (n : Head) (g : Ring) (capacity oldest : Nat), n = r.head → g = s.archive.rings[n] →
    capacity = 128 * Config.share s.settings.plan n →
    oldest = (g.counter + (4294967296 - g.records.length % 4294967296)) % 4294967296 →
    t = { s with
      archive := { s.archive with
        rings := s.archive.rings.set n
          { records := (if g.records.length < capacity then g.records else g.records.drop 1) ++ [{ r with seq := g.counter }]
            counter := (g.counter + 1) % 4294967296 } } } →
    (capacity = 0 → archiveRecord r s = s) ∧
    (0 < capacity →
      ((g.records.length < capacity ∨ s.archive.dump = none ∨
          ∃ d, s.archive.dump = some d ∧ (d.head ≠ n ∨ d.cursor ≠ some oldest)) → archiveRecord r s = t) ∧
      (capacity ≤ g.records.length → ∀ d, s.archive.dump = some d → d.head = n → d.cursor = some oldest →
        (d.sent + (d.skipped + 1) ≠ d.length → archiveRecord r s =
          { t with
            archive := { t.archive with
              dump := some { d with
                cursor := if oldest = d.last then none else some ((oldest + 1) % 4294967296)
                skipped := d.skipped + 1 } } }) ∧
        (d.sent + (d.skipped + 1) = d.length → RoomFor 1 s → s.sys.restartPending = false → archiveRecord r s =
          noted (.dumpEnd n d.sent (d.skipped + 1) true) { t with archive := { t.archive with dump := none } })))

/-- Streaming: a record is streamed when an enabled selector's head set and class set hold its own and its flags agree with the value
at every flag of the mask; it joins the tail of its head's batch, starting the flush timer of an empty one, and at the threshold
the batch is offered, to join or to be discarded and counted (R151, R153, R142, R146). -/
def Claim.SelectedRecordsJoinTheBatch : Prop :=
  ∀ (r : SampleRecord) (s : State) (cls : Nat) (selected : Prop),
    cls = (match r.disposition with
      | .accepted => 0
      | .rejected _ => 1
      | .discarded _ => 2
      | .unbound => 3) →
    (selected ↔ ∃ j : Fin 4, s.settings.selectors[j].enable = true ∧
      s.settings.selectors[j].heads.getLsbD r.head.val = true ∧ s.settings.selectors[j].classes.getLsbD cls = true ∧
      ∀ b : Nat, b < 4 → s.settings.selectors[j].mask.getLsbD b = true →
        [r.gap.isSome, r.backlog, r.tide.isNone, r.calibrated.isNone][b]? = some (s.settings.selectors[j].value.getLsbD b)) →
    (¬ selected → streamRecord r s = s) ∧
    (selected → ∀ (n : Head) (l : List SampleRecord) (e : Option Int), n = r.head → l = s.batches[n].records ++ [r] →
      e = (if s.batches[n].records = [] then some ((s.clock.time : Int) + s.settings.flush) else s.batches[n].expiry) →
      (l.length < s.settings.threshold → streamRecord r s =
        { s with batches := s.batches.set n { records := l, expiry := e } }) ∧
      (s.settings.threshold ≤ l.length →
        (RoomFor 1 s → s.out.congested = false → s.sys.restartPending = false → streamRecord r s =
          told (.batch n .threshold l) { s with batches := s.batches.set n { records := [], expiry := none } }) ∧
        ((s.out.congested = true ∨ hasEntry s = false) → streamRecord r s =
          { s with
            batches := s.batches.set n { records := [], expiry := none }
            out := { s.out with samplesDropped := min (s.out.samplesDropped + l.length) 65535 } })))

/-- The completion of a correction: its order, and what each part of it does to the record and the state. -/
def Obligations.CorrectionCompleteHandsTheRecordOn : Prop :=
  Claim.CorrectionCompleteWithoutStreaming ∧ Claim.CorrectionCompleteFollowsTheOrder ∧ Claim.AnotherContextsTideIsRemoved ∧
    Claim.DispositionFollowsVersionAndState ∧ Claim.CountsFollowTheDisposition ∧ Claim.ReachingTheTargetCompletes ∧
    Claim.AppendOverwritesTheOldest ∧ Claim.SelectedRecordsJoinTheBatch

/-- LIMIT_EXPIRY: a RUNNING context whose limit timer is due is COMPLETE by TIME_LIMIT, and, with no other reading waiting and an entry
free, its reading joins and it is freed (R89, R96, R98, R99). -/
def Claim.LimitExpiryCompletesTheContext : Prop :=
  ∀ (n : Head) (s : State) (c d : Context) (b e : Int), s.occ.active[n] = some c → c.state = .running b (some e) →
    e ≤ s.clock.time → s.occ.waiting = [] → Quiet s → RoomFor 1 s → s.sys.restartPending = false →
    d = { c with
      state := .complete .timeLimit
      acc := { leaveState s.clock.time c with completion := some s.clock.time } } →
    exec (.limitExpiry n) s = .next (told (.reading (makeReading d .timeLimit))
      { s with
        occ := { s.occ with active := s.occ.active.set n none }
        groups := (leaveList c s).groups
        table := updateStation c.station dropReference s.table
        corr := (unbindTag c.tag s).corr })

/-- READING_JOIN: the first reading that waits takes a free entry and its context is freed (R98, R99). -/
def Claim.ReadingJoinFreesTheFirstWaiting : Prop :=
  ∀ (s : State) (n : Head) (rest : List Head) (c : Context) (w : CompletionReason), s.occ.waiting = n :: rest →
    s.occ.active[n] = some c → c.state = .complete w → Quiet s → RoomFor 1 s → s.sys.restartPending = false →
    exec .readingJoin s = .next (told (.reading (makeReading c w))
      { s with
        occ := { s.occ with
          active := s.occ.active.set n none
          waiting := rest.filter fun m => m != n }
        groups := (leaveList c s).groups
        table := updateStation c.station dropReference s.table
        corr := (unbindTag c.tag s).corr })

/-- The values of a reading: the means of gravity, tilt and temperature corrections are their sums over the accepted count, absent when it
is 0; the standard error is the root of (sum of squares - gravity sum squared / n) / (n (n - 1)), absent below 2; the mean tide is
over the samples that had one, absent when none had; each rounded once, halfway away from zero. The rest is the context's (R101). -/
def Claim.ReadingValuesComeFromTheAccumulators : Prop :=
  ∀ (c : Context) (w : CompletionReason) (r : Reading) (a : Accumulators) (n m : Nat), r = makeReading c w → a = c.acc →
    n = a.accepted → m = n - a.tideAbsent →
    (n = 0 → r.mean = none ∧ r.meanTilt = none ∧ r.meanTemp = none) ∧ (m = 0 → r.meanTide = none) ∧ (n < 2 → r.stdErr = none) ∧
    (0 < n → ∃ x y z, r.mean = some x ∧ r.meanTilt = some y ∧ r.meanTemp = some z ∧ Rounded ((a.gravity : ℝ) / n) x ∧
      Rounded ((a.tilt : ℝ) / n) y ∧ Rounded ((a.temp : ℝ) / n) z) ∧
    (0 < m → ∃ x, r.meanTide = some x ∧ Rounded ((a.tide : ℝ) / m) x) ∧
    (2 ≤ n → ∃ x, r.stdErr = some x ∧
      Rounded (Real.sqrt (((a.squares : ℝ) - (a.gravity : ℝ) ^ 2 / n) / ((n : ℝ) * ((n : ℝ) - 1)))) x) ∧
    r.tag = c.tag ∧ r.head = c.head ∧ r.station = c.station ∧ r.reason = w ∧ r.completion = a.completion.getD 0 ∧
    r.version = c.version ∧ r.target = c.policy.target ∧ r.minimum = c.policy.minimum ∧ r.acc = a ∧ r.flags = c.flags

/-- The status of a reading is GOOD when the accepted count is at least the minimum count and INSUFFICIENT otherwise: with no accepted
sample INSUFFICIENT, at the target GOOD, whatever the reason and the flags (R102; policies in the ranges of R75). -/
def Obligations.ReadingIsGoodWithEnoughSamples : Prop :=
  ∀ (c : Context) (w v : CompletionReason) (f : OccFlags),
    ((makeReading c w).good = true ↔ c.policy.minimum ≤ c.acc.accepted) ∧
    (policyOk c.policy = true → c.acc.accepted = 0 → (makeReading c w).good = false) ∧
    (policyOk c.policy = true → c.acc.accepted = c.policy.target → (makeReading c w).good = true) ∧
    (makeReading { c with flags := f } v).good = (makeReading c w).good

/-- FLUSH_EXPIRY: a batch whose flush timer is due is offered with cause FLUSH and is empty afterwards: it joins, or, under congestion
or with no entry free, it is discarded and its length counted (R153, R142, R146). -/
def Claim.FlushExpiryOffersTheBatch : Prop :=
  ∀ (n : Head) (s t : State) (e : Int), s.batches[n].expiry = some e → e ≤ s.clock.time → Quiet s →
    t = { s with batches := s.batches.set n { records := [], expiry := none } } →
    (RoomFor 1 s → s.out.congested = false → s.sys.restartPending = false →
      exec (.flushExpiry n) s = .next (told (.batch n .flush s.batches[n].records) t)) ∧
    ((s.out.congested = true ∨ hasEntry s = false) → exec (.flushExpiry n) s = .next
      { t with
        out := { s.out with samplesDropped := min (s.out.samplesDropped + s.batches[n].records.length) 65535 } })

/-! ## Events (chapter 7) -/

/-- EVENT_LINE_CHANGE: the new level is recorded; an edge mode raises a request for a change in its direction; a level mode raises one
when the line becomes active with the re-arm flag set, clearing the flag, and sets the flag when the line becomes inactive; OFF and
a part that is STARTING only record (R121, R122, R131). -/
def Claim.EventLineChangeRaisesRequests : Prop :=
  ∀ (i : Fin 4) (level : Bool) (s t : State) (k : Source) (m : SourceMode), Quiet s → k.val = i.val →
    m = s.settings.sources[k].mode →
    t = { s with
      pins := { s.pins with lines := if level then s.pins.lines ||| BitVec.twoPow 4 i.val else s.pins.lines &&& ~~~BitVec.twoPow 4 i.val }
      events := { s.events with
        level := if level then s.events.level ||| BitVec.twoPow 4 i.val else s.events.level &&& ~~~BitVec.twoPow 4 i.val } } →
    (s.events.level.getLsbD i.val = level → exec (.eventLineChange i level) s = .next s) ∧
    (s.events.level.getLsbD i.val ≠ level →
      ((m = .off ∨ s.sys.part = .starting ∨ m = .rising ∧ level = false ∨ m = .falling ∧ level = true) →
        exec (.eventLineChange i level) s = .next t) ∧
      (s.sys.part = .ready → (m = .rising ∧ level = true ∨ m = .falling ∧ level = false) →
        exec (.eventLineChange i level) s = .next (latchNext (raise k t))) ∧
      (s.sys.part = .ready → (m = .high ∧ level = false ∨ m = .low ∧ level = true) →
        exec (.eventLineChange i level) s = .next
          { t with events := { t.events with rearm := s.events.rearm ||| BitVec.twoPow 4 i.val } }) ∧
      (s.sys.part = .ready → (m = .high ∧ level = true ∨ m = .low ∧ level = false) →
        (s.events.rearm.getLsbD i.val = false → exec (.eventLineChange i level) s = .next t) ∧
        (s.events.rearm.getLsbD i.val = true → exec (.eventLineChange i level) s = .next (latchNext (raise k
          { t with events := { t.events with rearm := s.events.rearm &&& ~~~BitVec.twoPow 4 i.val } })))))

/-- A request sets the pending flag of its source, unless the source is OFF or the part STARTING; an empty latch takes the
highest-numbered source pending and unmasked, whose flag it clears (R123, R124, R125, R131). -/
def Claim.RequestsPendAndTheHighestIsLatched : Prop :=
  ∀ (i : Source) (s : State),
    (s.sys.part = .ready → s.settings.sources[i].mode ≠ .off →
      raise i s = { s with events := { s.events with pending := s.events.pending ||| BitVec.twoPow 8 i.val } }) ∧
    ((s.sys.part = .starting ∨ s.settings.sources[i].mode = .off) → raise i s = s) ∧
    (∀ j, s.events.latch = some j → latchNext s = s) ∧
    (s.events.latch = none →
      ((∀ j : Source, s.events.pending.getLsbD j.val = true → s.settings.sources[j].masked = true) → latchNext s = s) ∧
      (s.events.pending.getLsbD i.val = true → s.settings.sources[i].masked = false →
        (∀ j : Source, i < j → s.events.pending.getLsbD j.val = true → s.settings.sources[j].masked = true) →
        latchNext s =
          { s with
            events := { s.events with
              pending := s.events.pending &&& ~~~BitVec.twoPow 8 i.val
              latch := some i } }))

/-- EVENT_DISPATCH of the latched source, with at most one context bound: a gathering context with the source in its hold set is
HELD(EVENT) with its notice; a held one, not STALE, with the source in its wake set is released, passing through a settle time of 0
at once; any other is left; then the EVENT notice joins where the source notifies, and the latch empties (R126, R127, R82, R90,
R92). -/
def Claim.EventDispatchHoldsAndWakes : Prop :=
  ∀ (i : Source) (s : State) (n : Head) (o : Option Context) (finish : State → Nat → Nat → State),
    s.events.latch = some i → nextSource s = none → RoomFor 2 s → s.sys.restartPending = false →
    s.occ.active[n] = o → (∀ m : Head, m ≠ n → s.occ.active[m] = none) →
    (∀ t held woken, finish t held woken =
      { (if s.settings.sources[i].notify then
          noted (.event i (if i.val < 4 then some (s.events.level.getLsbD i.val) else none) held woken) t else t) with
        events := { s.events with latch := none } }) →
    ((o = none ∨ ∃ c, o = some c ∧ (c.state = .held .stale ∨ (∃ w, c.state = .complete w) ∨
        (gathering c = true ∧ c.hold.getLsbD i.val = false) ∨
        ((∃ w, c.state = .held w) ∧ c.wake.getLsbD i.val = false))) →
      exec .eventDispatch s = .next (finish s 0 0)) ∧
    (∀ c, o = some c → gathering c = true → c.hold.getLsbD i.val = true →
      exec .eventDispatch s = .next (finish (noted (.contextHold c.tag c.head (stateName c.state) (.source i))
        { s with
          occ := { s.occ with
            active := s.occ.active.set n (some { c with state := .held .event, acc := leaveState s.clock.time c }) }
          groups := (leaveList c s).groups }) 1 0)) ∧
    (∀ c w, o = some c → c.state = .held w → w ≠ .stale → c.wake.getLsbD i.val = true →
      (c.policy.resettle = false → exec .eventDispatch s = .next (finish
        { s with occ := { s.occ with active := s.occ.active.set n (some (running s.clock.time c)) } } 0 1)) ∧
      (c.policy.resettle = true → c.policy.settle ≠ 0 → exec .eventDispatch s = .next (finish
        { s with occ := { s.occ with active := s.occ.active.set n (some (settled s.clock.time c)) } } 0 1)) ∧
      (c.policy.resettle = true → c.policy.settle = 0 → ∀ u, u =
          { s with occ := { s.occ with active := s.occ.active.set n (some (settled s.clock.time c)) } } →
        (c.group = none → exec .eventDispatch s = .next (finish
          { u with occ := { u.occ with active := u.occ.active.set n (some (running s.clock.time (settled s.clock.time c))) } } 0 1)) ∧
        ∀ g, c.group = some g → exec .eventDispatch s = .next (finish (arrive n (settled s.clock.time c) g u) 0 1)))

/-- EVENT_DISPATCH with any contexts bound, whatever the queue holds: the heads are reached in order H0 to H3, each once, through the
states `st 0` to `st 4`, and `held` and `woken` count along. A context is acted on by the state it is in when the dispatch
reaches it, after what the earlier heads brought about: a gathering one with the source in its hold set is HELD(EVENT), leaves
its group's list and its notice is offered; a held one, not STALE, with the source in its wake set is released into RUNNING, or into
SETTLING, from which a settle time of 0 carries it at once into RUNNING or to its group, which may then be released; any other head
changes nothing. Then the EVENT notice with both counts is offered where the source notifies, the latch empties, and the next
source is latched (R125, R126, R127, R82, R90, R92, R134). -/
def Claim.EventDispatchReachesHeadsInOrder : Prop :=
  ∀ (i : Source) (s : State), s.events.latch = some i →
    ∃ (st : Nat → State) (held woken : Nat → Nat) (u : State), st 0 = s ∧ held 0 = 0 ∧ woken 0 = 0 ∧
      (∀ (n : Head) (x y : State) (o : Option Context), x = st n.val → y = st (n.val + 1) → o = x.occ.active[n] →
        ((o = none ∨ ∃ c, o = some c ∧ (c.state = .held .stale ∨ (∃ w, c.state = .complete w) ∨ c.state = .parked ∨
            (gathering c = true ∧ c.hold.getLsbD i.val = false) ∨
            ((∃ w, c.state = .held w) ∧ c.wake.getLsbD i.val = false))) →
          y = x ∧ held (n.val + 1) = held n.val ∧ woken (n.val + 1) = woken n.val) ∧
        (∀ c, o = some c → gathering c = true → c.hold.getLsbD i.val = true →
          y = offerNotice (.contextHold c.tag c.head (stateName c.state) (.source i))
            { x with
              occ := { x.occ with
                active := x.occ.active.set n (some { c with state := .held .event, acc := leaveState s.clock.time c }) }
              groups := (leaveList c x).groups } ∧
          held (n.val + 1) = held n.val + 1 ∧ woken (n.val + 1) = woken n.val) ∧
        (∀ c w, o = some c → c.state = .held w → w ≠ .stale → c.wake.getLsbD i.val = true →
          held (n.val + 1) = held n.val ∧ woken (n.val + 1) = woken n.val + 1 ∧
          (c.policy.resettle = false →
            y = { x with occ := { x.occ with active := x.occ.active.set n (some (running s.clock.time c)) } }) ∧
          (c.policy.resettle = true → ∀ (d : Context) (z : State), d = settled s.clock.time c →
            z = { x with occ := { x.occ with active := x.occ.active.set n (some d) } } →
            (c.policy.settle ≠ 0 → y = z) ∧
            (c.policy.settle = 0 →
              (c.group = none →
                y = { z with occ := { z.occ with active := z.occ.active.set n (some (running s.clock.time d)) } }) ∧
              ∀ g, c.group = some g → y = arrive n d g z)))) ∧
      u = (if s.settings.sources[i].notify then
          offerNotice (.event i (if i.val < 4 then some (s.events.level.getLsbD i.val) else none) (held 4) (woken 4)) (st 4)
        else st 4) ∧
      exec .eventDispatch s = .next (latchNext { u with events := { u.events with latch := none } })

/-! ## Dumps (chapter 9) -/

/-- DUMP_START: the grounds in order; then the dump stands with its range, F in the ring beginning there and F behind the ring having
skipped what was overwritten; the reply is ACCEPTED with it. A range wholly behind the ring ends at once with its DUMP_END (R161,
R162, R166). Sequence numbers are taken below 2^32. F equal to the counter is read as behind the ring, its range wholly so (log 16). -/
def Claim.DumpStartPlacesTheRange : Prop :=
  ∀ (h : Header) (p : DumpStartParams) (n : Head) (s : State) (g : Ring) (oldest newest : Nat), Taken .dumpStart h s →
    g = s.archive.rings[n] → g.counter < 4294967296 → g.records.length ≤ 8192 → p.first < 4294967296 →
    oldest = (g.counter + 4294967296 - g.records.length) % 4294967296 → newest = (g.counter + 4294967295) % 4294967296 →
    ((3 < p.head ∨ p.count < 1 ∨ 8192 < p.count ∨ p.block < 1 ∨ 8 < p.block) →
      exec (.dumpStart h (.ok p)) s = .next (answered h .dumpStart .badValue .none s)) ∧
    (p.head = n.val → 1 ≤ p.count → p.count ≤ 8192 → 1 ≤ p.block → p.block ≤ 8 →
      (s.archive.dump.isSome → exec (.dumpStart h (.ok p)) s = .next (answered h .dumpStart .busy .none s)) ∧
      (s.archive.dump = none →
        ∀ fromOldest back toNewest : Nat, fromOldest = (p.first + 4294967296 - oldest) % 4294967296 →
          back = (g.counter + 4294967296 - p.first) % 4294967296 → toNewest = (newest + 4294967296 - p.first) % 4294967296 →
        ((g.records = [] ∨ g.records.length ≤ fromOldest ∧ 2147483648 < back) →
          exec (.dumpStart h (.ok p)) s = .next (answered h .dumpStart .notFound .none s)) ∧
        (g.records ≠ [] → ∀ d : Dump,
          (fromOldest < g.records.length →
            d =
              { head := n
                first := p.first
                last := (p.first + min (p.count - 1) toNewest) % 4294967296
                length := min p.count (toNewest + 1)
                cursor := some p.first
                block := p.block
                quiet := p.quiet
                sent := 0
                skipped := 0 } →
            exec (.dumpStart h (.ok p)) s = .next (answered h .dumpStart .accepted (.dumpStarted d)
              { s with archive := { s.archive with dump := some d } })) ∧
          (g.records.length ≤ fromOldest → g.records.length < back → back ≤ 2147483648 →
            back - g.records.length < p.count →
            d =
              { head := n
                first := p.first
                last := (p.first + min (p.count - 1) toNewest) % 4294967296
                length := min p.count (toNewest + 1)
                cursor := some oldest
                block := p.block
                quiet := p.quiet
                sent := 0
                skipped := back - g.records.length } →
            exec (.dumpStart h (.ok p)) s = .next (answered h .dumpStart .accepted (.dumpStarted d)
              { s with archive := { s.archive with dump := some d } })) ∧
          ((p.first = g.counter ∨ g.records.length ≤ fromOldest ∧ g.records.length < back ∧ back ≤ 2147483648 ∧
              p.count ≤ back - g.records.length) →
            RoomFor 2 s →
            d =
              { head := n
                first := p.first
                last := (p.first + (p.count - 1)) % 4294967296
                length := p.count
                cursor := none
                block := p.block
                quiet := p.quiet
                sent := 0
                skipped := p.count } →
            exec (.dumpStart h (.ok p)) s = .next (noted (.dumpEnd n 0 p.count true)
              (answered h .dumpStart .accepted (.dumpStarted d) s))))))

/-- DUMP_BLOCK: with the cursor present, no congestion, a free entry and, for a quiet dump, no gathering context, a block of the records
from the cursor on, up to the block size and not past the last sequence, joins; the cursor and the records sent move on, and the
dump ends DONE with its notice when its range is covered (R163, R164, R166). -/
def Claim.DumpBlockSendsRecords : Prop :=
  ∀ (s : State) (d : Dump) (c k : Nat) (g : Ring) (l : List SampleRecord), s.archive.dump = some d → d.cursor = some c →
    s.out.congested = false → RoomFor 2 s → s.sys.restartPending = false → Quiet s →
    (d.quiet = true → ∀ (n : Head) x, s.occ.active[n] = some x → gathering x = false) →
    g = s.archive.rings[d.head] → g.counter < 4294967296 → c < 4294967296 → d.last < 4294967296 → g.records.length ≤ 8192 →
    k = ((c + g.records.length + 4294967296 - g.counter) % 4294967296) →
    l = (g.records.drop k).take (min d.block ((d.last + 4294967296 - c) % 4294967296 + 1)) → l ≠ [] →
    (d.sent + l.length + d.skipped ≠ d.length → exec .dumpBlock s = .next (told (.dump d.head c l)
      { s with
        archive := { s.archive with
          dump := some { d with
            cursor := if (c + (l.length - 1)) % 4294967296 = d.last then none else some ((c + l.length) % 4294967296)
            sent := d.sent + l.length } } })) ∧
    (d.sent + l.length + d.skipped = d.length → exec .dumpBlock s = .next
      (noted (.dumpEnd d.head (d.sent + l.length) d.skipped true) (told (.dump d.head c l)
        { s with archive := { s.archive with dump := none } })))

/-- DUMP_STOP: not found without a dump; otherwise the reply joins, the dump ends STOPPED, and its DUMP_END notice follows (R166). -/
def Claim.DumpStopEndsTheDump : Prop :=
  ∀ (h : Header) (s : State), Taken .dumpStop h s →
    (s.archive.dump = none → exec (.dumpStop h (.ok ())) s = .next (answered h .dumpStop .notFound .none s)) ∧
    ∀ d, s.archive.dump = some d → RoomFor 2 s → exec (.dumpStop h (.ok ())) s = .next
      (noted (.dumpEnd d.head d.sent d.skipped false) (answered h .dumpStop .done .none
        { s with archive := { s.archive with dump := none } }))

/-! ## Statements made of several claims -/

/-- RESTART from its command to the moment it takes effect. The model's own in the start values: the factory settings stand during
the load (log 6), nothing is recorded on the line (log 7), head receivers are emptied (log 19), re-arm flags are clear (log 25). -/
def Obligations.RestartWaitsForItsReplyAndThenStarts : Prop :=
  Claim.RestartWaitsForItsReply ∧ Claim.RestartTakesEffectAtItsReply

/-- The two steps that begin and end transmissions, and who claims the entry that is freed (between rivals a free value: log 26). -/
def Obligations.TransmissionsTakeTheOldestMessage : Prop :=
  Claim.LinkReadyBeginsATransmission ∧ Claim.TransmissionCompleteFreesTheOldestEntry ∧
    Claim.FrameIsTakenAtTheFreedEntry ∧ Claim.FreedEntryGoesToOneClaimant ∧ Claim.OtherClaimantsWouldBringAMessage

/-- The first four grounds of a refusal, and who holds which permission. -/
def Obligations.CommandsAreAnsweredByTheGroundsInOrder : Prop :=
  Claim.UnknownKindIsAnswered ∧ Claim.CommandsAreRefusedInOrder ∧ Claim.PermissionsFollowTheSets

/-- What becomes of a frame that is not answered at once. -/
def Obligations.FramesAreTakenQueuedOrDropped : Prop :=
  Claim.FrameThatCannotBeTakenWaits ∧ Claim.SurveyFrameIsTakenOrDropped

/-- Three commands of one shape: a ground of range, and one item replaced. -/
def Obligations.SettingCommandsReplaceWhatTheyName : Prop :=
  Claim.SenderSetReplacesOneSet ∧ Claim.FaultClearRemovesCauses ∧ Claim.OccDefaultsReplacesThePolicy

/-- The two commands of the event sources. -/
def Obligations.EventSourceCommandsSetUpAndClear : Prop :=
  Claim.EvtSetupStoresAndEntersModes ∧ Claim.EvtSetupAppliesEveryEntry ∧ Claim.EvtClearDropsRequests

/-- The selectors, the batches under new settings, and the flush timer. -/
def Obligations.StreamCommandsAndFlushing : Prop :=
  Claim.StreamSelectReplacesASelector ∧ Claim.StreamBatchBringsBatchesUnderNewSettings ∧ Claim.FlushExpiryOffersTheBatch

/-- The conditions of a commit, and the commit. -/
def Obligations.CalCommitTestsAndCommits : Prop :=
  Claim.RecordConditionsAreThoseOfTheRule ∧ Claim.CalCommitPutsTheStagedRecordInPlace

/-- A step of the clock, what the page set makes of it, and the command that makes one. That the sources the step raises are latched and
dispatched at its end, after the pages' sources are both raised, is log 17. -/
def Obligations.SetTimeMovesEveryTimer : Prop :=
  Claim.ClockStepMovesTimersAndAnchors ∧ Claim.PageStepRetiresThenEvaluates ∧ Claim.SetTimeStepsTheClock

/-- The mark and its loss. That sources the step raises are latched at its end, after the pages' sources, is log 17. -/
def Obligations.TimeMarksLockAndUnlockTheClock : Prop :=
  Claim.TimeMarkSnapsOrUnlocks ∧ Claim.LossExpiryUnlocksTheClock

/-- The two steps that time brings to the pages. That latching comes at the end of the step, after sources 4 and 5 are both raised, is
log 17. -/
def Obligations.PagesRetireAndSpansStart : Prop :=
  Claim.PageRetirementEmptiesTheSlot ∧ Claim.SpanStartMakesTheTideAvailable

/-- The commands that load a page. -/
def Obligations.PagesAreOpenedAndFilled : Prop :=
  Claim.PageOpenFillsTheLowestEmptySlot ∧ Claim.PageAddAppendsConstituents

/-- The commands that put a page in use and take it out. -/
def Obligations.PagesAreCommittedAndDropped : Prop :=
  Claim.PageCommitNeedsAPage ∧ Claim.PageCommitMakesAPageReady ∧ Claim.PageDropEmptiesTheSlot

/-- Three queries. -/
def Obligations.PageTideAndStationListsReport : Prop :=
  Claim.PageListReportsThePages ∧ Claim.TideQueryEvaluatesTheTide ∧ Claim.StnListReportsTheTable

/-- The two ways records leave the table. -/
def Obligations.StationRecordsAreRemovedAndAged : Prop :=
  Claim.StnDeleteRemovesARecord ∧ Claim.StnAgeRemovesUnusedLearnedRecords

/-- The entries to states, and the end of settling. -/
def Obligations.SettlingEndsInRunningOrAnArrival : Prop :=
  Claim.ContextEntriesKeepTimersDurationAndSegments ∧ Claim.SettleExpiryStartsRunningOrArrives

/-- Arrival, release, expiry and leaving of a joint group. -/
def Obligations.JointGroupsGatherReleaseAndLose : Prop :=
  Claim.ArrivalGathersOrReleasesTheGroup ∧ Claim.GatheringExpiryReleasesUnjoined ∧ Claim.LeavingTheArrivalListKeepsTheOthers

/-- OCC_OPEN refused and OCC_OPEN passed. -/
def Obligations.OccOpenIsTestedAndCreatesTheContext : Prop :=
  Claim.OccOpenIsRefusedInOrder ∧ Claim.OccOpenCreatesTheContext

/-- The two commands of holds. -/
def Obligations.ContextsAreHeldAndReleased : Prop :=
  Claim.OccHoldHoldsAGatheringContext ∧ Claim.OccReleaseReleasesAHeldContext

/-- The commands that end an occupation. -/
def Obligations.ContextsAreClosedAndAborted : Prop :=
  Claim.OccCloseCompletesAnActiveContext ∧ Claim.OccCloseEndsAParkedContext ∧ Claim.OccAbortFreesTheContext

/-- Parking and cloning. -/
def Obligations.ContextsAreParkedAndCloned : Prop :=
  Claim.OccParkMovesAContextIntoTheStore ∧ Claim.OccCloneCopiesTheSource

/-- A context that becomes active again, by either command. -/
def Obligations.ParkedContextsBecomeActive : Prop :=
  Claim.ResumedContextsMeetTheCalibration ∧ Claim.OccUnparkMakesAContextActive ∧ Claim.OccSwapExchangesTwoContexts

/-- The head port: frames whole and in pieces, fault causes, silence. That the bytes of a failed frame, hunted again, are no further
discarded run is log 13; the stamp of a time beyond the survey clock is free (log 10). -/
def Obligations.HeadPortsDecodeFramesAndSetFaults : Prop :=
  Claim.HeadFrameIsDecodedAndPushed ∧ Claim.HeadStatusIsSetBeforeThePush ∧ Claim.HeadFramesArriveInPieces ∧ Claim.FaultCauseNotifiesAndHalts ∧ Claim.SilenceExpiryMakesTheHeadSilent

/-- The choice and the grant. -/
def Obligations.ArbiterGrantsAndBeginsCorrections : Prop :=
  Claim.ArbiterChoosesTheNextHead ∧ Claim.GrantBeginsACorrection

/-- The record of a correction, and the lag state. That the lagged temperature's sum is rounded once, as a whole, is log 22. -/
def Obligations.CorrectionsAreComputedFromTheirCopies : Prop :=
  Claim.CorrectionFormsTheRecord ∧ Claim.CorrectionFormsTemperatureAndLag ∧ Claim.LagStateFollowsTheFourCases

/-- The running-time limit, readings that wait, and the values a reading gives. -/
def Obligations.CompletionsSendReadingsAndFree : Prop :=
  Claim.LimitExpiryCompletesTheContext ∧ Claim.ReadingJoinFreesTheFirstWaiting ∧ Claim.ReadingValuesComeFromTheAccumulators

/-- From a line change to the dispatch of its source. -/
def Obligations.EventsAreRequestedLatchedAndDispatched : Prop :=
  Claim.EventLineChangeRaisesRequests ∧ Claim.RequestsPendAndTheHighestIsLatched ∧ Claim.EventDispatchHoldsAndWakes ∧
    Claim.EventDispatchReachesHeadsInOrder

/-- A dump from its start to its end. -/
def Obligations.DumpsStartSendAndStop : Prop :=
  Claim.DumpStartPlacesTheRange ∧ Claim.DumpBlockSendsRecords ∧ Claim.DumpStopEndsTheDump

/-! ## Laws of the occupations, and the tide to its last digit -/

/-- After any step an arrival list still holds the tags of the WAITING contexts of its group, each once, fewer than the target, with the
gathering timer running exactly while it holds one (R132, R134 to R137); no live context has accepted more samples than its target,
and one that is not COMPLETE fewer (R83, R88); and every station record counts the live contexts that name it, each of which has a
record (R62). The laws rest on each other: contexts in their places, tags unique, the station table in order. -/
def Obligations.StepKeepsOccupationLaws : Prop :=
  (∀ s t : State, SlotLaw s.occ → LiveTagsDistinct s.occ → ArrivalLaw s → step s = .next t → ArrivalLaw t) ∧
    (∀ s t : State, SlotLaw s.occ → LiveTagsDistinct s.occ → ArrivalLaw s → TargetLaw s.occ → step s = .next t → TargetLaw t.occ) ∧
    ∀ s t : State, SlotLaw s.occ → LiveTagsDistinct s.occ → TableLaw s.table → RefsLaw s → step s = .next t → RefsLaw t

/-- The tide correction of a station at a time over a page, with every item in its range, lies within a half, and 10^-9 more, of the
exact sum of R56: minus the sum over the constituents of gravimetric factor, amplitude,
adjustment factor, latitude function, height factor and the cosine of the phase, in 0.1 microgal. Only the distance is claimed here: that
the 10^-9 is not used rests on the margin of the formed cosines and on the places formed (log 9). -/
def Claim.TideCorrectionIsNearTheExactSum : Prop :=
  ∀ (r : StationRecord) (p : Page) (t : Nat) (F lag : Constituent → Int) (phi : ℝ) (f : Nat → ℝ) (phase : Constituent → ℝ) (X : ℝ),
    deltaOk r.delta = true → positionOk r.pos = true → adjustOk r.adjust = true → (∀ c ∈ p.terms, constituentOk c = true) →
    p.terms.length ≤ 24 → p.length ≤ 259200 → p.start ≤ t → t < p.start + 1000 * p.length →
    (∀ c ∈ p.terms, ∀ e ∈ r.adjust, e.code = c.code → F c = e.factor ∧ lag c = e.lag) →
    (∀ c ∈ p.terms, (∀ e ∈ r.adjust, e.code ≠ c.code) → F c = 1000 ∧ lag c = 0) →
    phi = (r.pos.lat : ℝ) / 1000000 * (Real.pi / 180) →
    f 0 = 1 - 3 * Real.sin phi ^ 2 → f 1 = Real.sin (2 * phi) → f 2 = Real.cos phi ^ 2 → f 3 = Real.cos phi ^ 3 →
    (∀ c, phase c = (c.argument : ℝ) / 10000 + (c.speed : ℝ) / 10000 * (((t : ℝ) - p.start) / 3600000) +
      c.species * ((r.pos.lon : ℝ) / 1000000) - (lag c : ℝ) / 10000) →
    X = -(p.terms.map fun c => (r.delta : ℝ) / 1000 * ((c.amplitude : ℝ) / 100) * ((F c : ℝ) / 1000) * f c.species *
      (1 + (r.pos.height : ℝ) / 63710000) * Real.cos (phase c * (Real.pi / 180))).sum →
    |(tideCorrection r p t : ℝ) - X| ≤ 1 / 2 + 1 / 10 ^ 9

/-- How a half is decided (R56, section 2.4). The rounding of a quotient of integers takes a value halfway away from zero. A sum of
cosines that passes the test of vanishing is 0, so a tide sum that the model takes for halfway is exactly halfway; it goes
away from zero, to the end of its margin that lies farther out. -/
def Claim.TideRoundingTakesHalvesAwayFromZero : Prop :=
  (∀ (a : Int) (b : Nat), 0 < b → Rounded ((a : ℝ) / b) (roundDiv a b)) ∧
    (∀ l : CosineSum, sumVanishes l = true →
      (l.map fun y => (y.1 : ℝ) * Real.cos (2 * Real.pi * y.2 / (360 * 3600000000000))).sum = 0) ∧
    ∀ (d : Nat) (l : CosineSum) (lo hi : Int), roundedEnds d l = (lo, hi) → lo ≠ hi →
      sumVanishes ((-((lo + hi) * d), 0) :: l.map fun y => (2 * y.1, y.2)) = true →
      roundSum d l = if 0 < lo + hi then hi else lo

/-- The tide correction against the exact sum, and the direction of a half (the margin of the formed cosines: log 9). -/
def Obligations.TideCorrectionIsTheRoundedSum : Prop :=
  Claim.TideCorrectionIsNearTheExactSum ∧ Claim.TideRoundingTakesHalvesAwayFromZero
end

