-- ==== Sys2Proof/Laws/State.lean ====
section
/-! SUPPORT. One lemma per field and single-field update of the state, so that no proof unfolds one. -/

namespace Sys2Proof.Machine

@[simp] theorem setPort_pending (n : Head) (p : HeadPort) (s : State) : (setPort n p s).pending = s.pending := rfl
@[simp] theorem setPort_sys (n : Head) (p : HeadPort) (s : State) : (setPort n p s).sys = s.sys := rfl
@[simp] theorem setPort_settings (n : Head) (p : HeadPort) (s : State) : (setPort n p s).settings = s.settings := rfl
@[simp] theorem setPort_clock (n : Head) (p : HeadPort) (s : State) : (setPort n p s).clock = s.clock := rfl
@[simp] theorem setPort_pages (n : Head) (p : HeadPort) (s : State) : (setPort n p s).pages = s.pages := rfl
@[simp] theorem setPort_ports (n : Head) (p : HeadPort) (s : State) : (setPort n p s).ports = s.ports.set n p := rfl
@[simp] theorem setPort_partitions (n : Head) (p : HeadPort) (s : State) : (setPort n p s).partitions = s.partitions := rfl
@[simp] theorem setPort_corr (n : Head) (p : HeadPort) (s : State) : (setPort n p s).corr = s.corr := rfl
@[simp] theorem setPort_cal (n : Head) (p : HeadPort) (s : State) : (setPort n p s).cal = s.cal := rfl
@[simp] theorem setPort_table (n : Head) (p : HeadPort) (s : State) : (setPort n p s).table = s.table := rfl
@[simp] theorem setPort_occ (n : Head) (p : HeadPort) (s : State) : (setPort n p s).occ = s.occ := rfl
@[simp] theorem setPort_groups (n : Head) (p : HeadPort) (s : State) : (setPort n p s).groups = s.groups := rfl
@[simp] theorem setPort_events (n : Head) (p : HeadPort) (s : State) : (setPort n p s).events = s.events := rfl
@[simp] theorem setPort_out (n : Head) (p : HeadPort) (s : State) : (setPort n p s).out = s.out := rfl
@[simp] theorem setPort_batches (n : Head) (p : HeadPort) (s : State) : (setPort n p s).batches = s.batches := rfl
@[simp] theorem setPort_archive (n : Head) (p : HeadPort) (s : State) : (setPort n p s).archive = s.archive := rfl
@[simp] theorem setPort_link (n : Head) (p : HeadPort) (s : State) : (setPort n p s).link = s.link := rfl
@[simp] theorem setPort_pins (n : Head) (p : HeadPort) (s : State) : (setPort n p s).pins = s.pins := rfl
@[simp] theorem setPort_choices (n : Head) (p : HeadPort) (s : State) : (setPort n p s).choices = s.choices := rfl

@[simp] theorem setPartition_pending (n : Head) (l : List Sample) (s : State) : (setPartition n l s).pending = s.pending := rfl
@[simp] theorem setPartition_sys (n : Head) (l : List Sample) (s : State) : (setPartition n l s).sys = s.sys := rfl
@[simp] theorem setPartition_settings (n : Head) (l : List Sample) (s : State) : (setPartition n l s).settings = s.settings := rfl
@[simp] theorem setPartition_clock (n : Head) (l : List Sample) (s : State) : (setPartition n l s).clock = s.clock := rfl
@[simp] theorem setPartition_pages (n : Head) (l : List Sample) (s : State) : (setPartition n l s).pages = s.pages := rfl
@[simp] theorem setPartition_ports (n : Head) (l : List Sample) (s : State) : (setPartition n l s).ports = s.ports := rfl
@[simp] theorem setPartition_partitions (n : Head) (l : List Sample) (s : State) : (setPartition n l s).partitions = s.partitions.set n l := rfl
@[simp] theorem setPartition_corr (n : Head) (l : List Sample) (s : State) : (setPartition n l s).corr = s.corr := rfl
@[simp] theorem setPartition_cal (n : Head) (l : List Sample) (s : State) : (setPartition n l s).cal = s.cal := rfl
@[simp] theorem setPartition_table (n : Head) (l : List Sample) (s : State) : (setPartition n l s).table = s.table := rfl
@[simp] theorem setPartition_occ (n : Head) (l : List Sample) (s : State) : (setPartition n l s).occ = s.occ := rfl
@[simp] theorem setPartition_groups (n : Head) (l : List Sample) (s : State) : (setPartition n l s).groups = s.groups := rfl
@[simp] theorem setPartition_events (n : Head) (l : List Sample) (s : State) : (setPartition n l s).events = s.events := rfl
@[simp] theorem setPartition_out (n : Head) (l : List Sample) (s : State) : (setPartition n l s).out = s.out := rfl
@[simp] theorem setPartition_batches (n : Head) (l : List Sample) (s : State) : (setPartition n l s).batches = s.batches := rfl
@[simp] theorem setPartition_archive (n : Head) (l : List Sample) (s : State) : (setPartition n l s).archive = s.archive := rfl
@[simp] theorem setPartition_link (n : Head) (l : List Sample) (s : State) : (setPartition n l s).link = s.link := rfl
@[simp] theorem setPartition_pins (n : Head) (l : List Sample) (s : State) : (setPartition n l s).pins = s.pins := rfl
@[simp] theorem setPartition_choices (n : Head) (l : List Sample) (s : State) : (setPartition n l s).choices = s.choices := rfl

@[simp] theorem setActive_pending (n : Head) (c : Option Context) (s : State) : (setActive n c s).pending = s.pending := rfl
@[simp] theorem setActive_sys (n : Head) (c : Option Context) (s : State) : (setActive n c s).sys = s.sys := rfl
@[simp] theorem setActive_settings (n : Head) (c : Option Context) (s : State) : (setActive n c s).settings = s.settings := rfl
@[simp] theorem setActive_clock (n : Head) (c : Option Context) (s : State) : (setActive n c s).clock = s.clock := rfl
@[simp] theorem setActive_pages (n : Head) (c : Option Context) (s : State) : (setActive n c s).pages = s.pages := rfl
@[simp] theorem setActive_ports (n : Head) (c : Option Context) (s : State) : (setActive n c s).ports = s.ports := rfl
@[simp] theorem setActive_partitions (n : Head) (c : Option Context) (s : State) : (setActive n c s).partitions = s.partitions := rfl
@[simp] theorem setActive_corr (n : Head) (c : Option Context) (s : State) : (setActive n c s).corr = s.corr := rfl
@[simp] theorem setActive_cal (n : Head) (c : Option Context) (s : State) : (setActive n c s).cal = s.cal := rfl
@[simp] theorem setActive_table (n : Head) (c : Option Context) (s : State) : (setActive n c s).table = s.table := rfl
@[simp] theorem setActive_occ (n : Head) (c : Option Context) (s : State) : (setActive n c s).occ = { s.occ with active := s.occ.active.set n c } := rfl
@[simp] theorem setActive_groups (n : Head) (c : Option Context) (s : State) : (setActive n c s).groups = s.groups := rfl
@[simp] theorem setActive_events (n : Head) (c : Option Context) (s : State) : (setActive n c s).events = s.events := rfl
@[simp] theorem setActive_out (n : Head) (c : Option Context) (s : State) : (setActive n c s).out = s.out := rfl
@[simp] theorem setActive_batches (n : Head) (c : Option Context) (s : State) : (setActive n c s).batches = s.batches := rfl
@[simp] theorem setActive_archive (n : Head) (c : Option Context) (s : State) : (setActive n c s).archive = s.archive := rfl
@[simp] theorem setActive_link (n : Head) (c : Option Context) (s : State) : (setActive n c s).link = s.link := rfl
@[simp] theorem setActive_pins (n : Head) (c : Option Context) (s : State) : (setActive n c s).pins = s.pins := rfl
@[simp] theorem setActive_choices (n : Head) (c : Option Context) (s : State) : (setActive n c s).choices = s.choices := rfl

@[simp] theorem setStored_pending (k : StoreSlotId) (c : Option Context) (s : State) : (setStored k c s).pending = s.pending := rfl
@[simp] theorem setStored_sys (k : StoreSlotId) (c : Option Context) (s : State) : (setStored k c s).sys = s.sys := rfl
@[simp] theorem setStored_settings (k : StoreSlotId) (c : Option Context) (s : State) : (setStored k c s).settings = s.settings := rfl
@[simp] theorem setStored_clock (k : StoreSlotId) (c : Option Context) (s : State) : (setStored k c s).clock = s.clock := rfl
@[simp] theorem setStored_pages (k : StoreSlotId) (c : Option Context) (s : State) : (setStored k c s).pages = s.pages := rfl
@[simp] theorem setStored_ports (k : StoreSlotId) (c : Option Context) (s : State) : (setStored k c s).ports = s.ports := rfl
@[simp] theorem setStored_partitions (k : StoreSlotId) (c : Option Context) (s : State) : (setStored k c s).partitions = s.partitions := rfl
@[simp] theorem setStored_corr (k : StoreSlotId) (c : Option Context) (s : State) : (setStored k c s).corr = s.corr := rfl
@[simp] theorem setStored_cal (k : StoreSlotId) (c : Option Context) (s : State) : (setStored k c s).cal = s.cal := rfl
@[simp] theorem setStored_table (k : StoreSlotId) (c : Option Context) (s : State) : (setStored k c s).table = s.table := rfl
@[simp] theorem setStored_occ (k : StoreSlotId) (c : Option Context) (s : State) : (setStored k c s).occ = { s.occ with store := s.occ.store.set k c } := rfl
@[simp] theorem setStored_groups (k : StoreSlotId) (c : Option Context) (s : State) : (setStored k c s).groups = s.groups := rfl
@[simp] theorem setStored_events (k : StoreSlotId) (c : Option Context) (s : State) : (setStored k c s).events = s.events := rfl
@[simp] theorem setStored_out (k : StoreSlotId) (c : Option Context) (s : State) : (setStored k c s).out = s.out := rfl
@[simp] theorem setStored_batches (k : StoreSlotId) (c : Option Context) (s : State) : (setStored k c s).batches = s.batches := rfl
@[simp] theorem setStored_archive (k : StoreSlotId) (c : Option Context) (s : State) : (setStored k c s).archive = s.archive := rfl
@[simp] theorem setStored_link (k : StoreSlotId) (c : Option Context) (s : State) : (setStored k c s).link = s.link := rfl
@[simp] theorem setStored_pins (k : StoreSlotId) (c : Option Context) (s : State) : (setStored k c s).pins = s.pins := rfl
@[simp] theorem setStored_choices (k : StoreSlotId) (c : Option Context) (s : State) : (setStored k c s).choices = s.choices := rfl

@[simp] theorem setGroup_pending (g : Group) (j : JointGroup) (s : State) : (setGroup g j s).pending = s.pending := rfl
@[simp] theorem setGroup_sys (g : Group) (j : JointGroup) (s : State) : (setGroup g j s).sys = s.sys := rfl
@[simp] theorem setGroup_settings (g : Group) (j : JointGroup) (s : State) : (setGroup g j s).settings = s.settings := rfl
@[simp] theorem setGroup_clock (g : Group) (j : JointGroup) (s : State) : (setGroup g j s).clock = s.clock := rfl
@[simp] theorem setGroup_pages (g : Group) (j : JointGroup) (s : State) : (setGroup g j s).pages = s.pages := rfl
@[simp] theorem setGroup_ports (g : Group) (j : JointGroup) (s : State) : (setGroup g j s).ports = s.ports := rfl
@[simp] theorem setGroup_partitions (g : Group) (j : JointGroup) (s : State) : (setGroup g j s).partitions = s.partitions := rfl
@[simp] theorem setGroup_corr (g : Group) (j : JointGroup) (s : State) : (setGroup g j s).corr = s.corr := rfl
@[simp] theorem setGroup_cal (g : Group) (j : JointGroup) (s : State) : (setGroup g j s).cal = s.cal := rfl
@[simp] theorem setGroup_table (g : Group) (j : JointGroup) (s : State) : (setGroup g j s).table = s.table := rfl
@[simp] theorem setGroup_occ (g : Group) (j : JointGroup) (s : State) : (setGroup g j s).occ = s.occ := rfl
@[simp] theorem setGroup_groups (g : Group) (j : JointGroup) (s : State) : (setGroup g j s).groups = s.groups.set g j := rfl
@[simp] theorem setGroup_events (g : Group) (j : JointGroup) (s : State) : (setGroup g j s).events = s.events := rfl
@[simp] theorem setGroup_out (g : Group) (j : JointGroup) (s : State) : (setGroup g j s).out = s.out := rfl
@[simp] theorem setGroup_batches (g : Group) (j : JointGroup) (s : State) : (setGroup g j s).batches = s.batches := rfl
@[simp] theorem setGroup_archive (g : Group) (j : JointGroup) (s : State) : (setGroup g j s).archive = s.archive := rfl
@[simp] theorem setGroup_link (g : Group) (j : JointGroup) (s : State) : (setGroup g j s).link = s.link := rfl
@[simp] theorem setGroup_pins (g : Group) (j : JointGroup) (s : State) : (setGroup g j s).pins = s.pins := rfl
@[simp] theorem setGroup_choices (g : Group) (j : JointGroup) (s : State) : (setGroup g j s).choices = s.choices := rfl

@[simp] theorem setBatch_pending (n : Head) (b : Batch) (s : State) : (setBatch n b s).pending = s.pending := rfl
@[simp] theorem setBatch_sys (n : Head) (b : Batch) (s : State) : (setBatch n b s).sys = s.sys := rfl
@[simp] theorem setBatch_settings (n : Head) (b : Batch) (s : State) : (setBatch n b s).settings = s.settings := rfl
@[simp] theorem setBatch_clock (n : Head) (b : Batch) (s : State) : (setBatch n b s).clock = s.clock := rfl
@[simp] theorem setBatch_pages (n : Head) (b : Batch) (s : State) : (setBatch n b s).pages = s.pages := rfl
@[simp] theorem setBatch_ports (n : Head) (b : Batch) (s : State) : (setBatch n b s).ports = s.ports := rfl
@[simp] theorem setBatch_partitions (n : Head) (b : Batch) (s : State) : (setBatch n b s).partitions = s.partitions := rfl
@[simp] theorem setBatch_corr (n : Head) (b : Batch) (s : State) : (setBatch n b s).corr = s.corr := rfl
@[simp] theorem setBatch_cal (n : Head) (b : Batch) (s : State) : (setBatch n b s).cal = s.cal := rfl
@[simp] theorem setBatch_table (n : Head) (b : Batch) (s : State) : (setBatch n b s).table = s.table := rfl
@[simp] theorem setBatch_occ (n : Head) (b : Batch) (s : State) : (setBatch n b s).occ = s.occ := rfl
@[simp] theorem setBatch_groups (n : Head) (b : Batch) (s : State) : (setBatch n b s).groups = s.groups := rfl
@[simp] theorem setBatch_events (n : Head) (b : Batch) (s : State) : (setBatch n b s).events = s.events := rfl
@[simp] theorem setBatch_out (n : Head) (b : Batch) (s : State) : (setBatch n b s).out = s.out := rfl
@[simp] theorem setBatch_batches (n : Head) (b : Batch) (s : State) : (setBatch n b s).batches = s.batches.set n b := rfl
@[simp] theorem setBatch_archive (n : Head) (b : Batch) (s : State) : (setBatch n b s).archive = s.archive := rfl
@[simp] theorem setBatch_link (n : Head) (b : Batch) (s : State) : (setBatch n b s).link = s.link := rfl
@[simp] theorem setBatch_pins (n : Head) (b : Batch) (s : State) : (setBatch n b s).pins = s.pins := rfl
@[simp] theorem setBatch_choices (n : Head) (b : Batch) (s : State) : (setBatch n b s).choices = s.choices := rfl

@[simp] theorem setSlot_pending (k : PageSlotId) (p : PageSlot) (s : State) : (setSlot k p s).pending = s.pending := rfl
@[simp] theorem setSlot_sys (k : PageSlotId) (p : PageSlot) (s : State) : (setSlot k p s).sys = s.sys := rfl
@[simp] theorem setSlot_settings (k : PageSlotId) (p : PageSlot) (s : State) : (setSlot k p s).settings = s.settings := rfl
@[simp] theorem setSlot_clock (k : PageSlotId) (p : PageSlot) (s : State) : (setSlot k p s).clock = s.clock := rfl
@[simp] theorem setSlot_pages (k : PageSlotId) (p : PageSlot) (s : State) : (setSlot k p s).pages = { s.pages with slots := s.pages.slots.set k p } := rfl
@[simp] theorem setSlot_ports (k : PageSlotId) (p : PageSlot) (s : State) : (setSlot k p s).ports = s.ports := rfl
@[simp] theorem setSlot_partitions (k : PageSlotId) (p : PageSlot) (s : State) : (setSlot k p s).partitions = s.partitions := rfl
@[simp] theorem setSlot_corr (k : PageSlotId) (p : PageSlot) (s : State) : (setSlot k p s).corr = s.corr := rfl
@[simp] theorem setSlot_cal (k : PageSlotId) (p : PageSlot) (s : State) : (setSlot k p s).cal = s.cal := rfl
@[simp] theorem setSlot_table (k : PageSlotId) (p : PageSlot) (s : State) : (setSlot k p s).table = s.table := rfl
@[simp] theorem setSlot_occ (k : PageSlotId) (p : PageSlot) (s : State) : (setSlot k p s).occ = s.occ := rfl
@[simp] theorem setSlot_groups (k : PageSlotId) (p : PageSlot) (s : State) : (setSlot k p s).groups = s.groups := rfl
@[simp] theorem setSlot_events (k : PageSlotId) (p : PageSlot) (s : State) : (setSlot k p s).events = s.events := rfl
@[simp] theorem setSlot_out (k : PageSlotId) (p : PageSlot) (s : State) : (setSlot k p s).out = s.out := rfl
@[simp] theorem setSlot_batches (k : PageSlotId) (p : PageSlot) (s : State) : (setSlot k p s).batches = s.batches := rfl
@[simp] theorem setSlot_archive (k : PageSlotId) (p : PageSlot) (s : State) : (setSlot k p s).archive = s.archive := rfl
@[simp] theorem setSlot_link (k : PageSlotId) (p : PageSlot) (s : State) : (setSlot k p s).link = s.link := rfl
@[simp] theorem setSlot_pins (k : PageSlotId) (p : PageSlot) (s : State) : (setSlot k p s).pins = s.pins := rfl
@[simp] theorem setSlot_choices (k : PageSlotId) (p : PageSlot) (s : State) : (setSlot k p s).choices = s.choices := rfl

@[simp] theorem setTable_pending (t : StationTable) (s : State) : (setTable t s).pending = s.pending := rfl
@[simp] theorem setTable_sys (t : StationTable) (s : State) : (setTable t s).sys = s.sys := rfl
@[simp] theorem setTable_settings (t : StationTable) (s : State) : (setTable t s).settings = s.settings := rfl
@[simp] theorem setTable_clock (t : StationTable) (s : State) : (setTable t s).clock = s.clock := rfl
@[simp] theorem setTable_pages (t : StationTable) (s : State) : (setTable t s).pages = s.pages := rfl
@[simp] theorem setTable_ports (t : StationTable) (s : State) : (setTable t s).ports = s.ports := rfl
@[simp] theorem setTable_partitions (t : StationTable) (s : State) : (setTable t s).partitions = s.partitions := rfl
@[simp] theorem setTable_corr (t : StationTable) (s : State) : (setTable t s).corr = s.corr := rfl
@[simp] theorem setTable_cal (t : StationTable) (s : State) : (setTable t s).cal = s.cal := rfl
@[simp] theorem setTable_table (t : StationTable) (s : State) : (setTable t s).table = t := rfl
@[simp] theorem setTable_occ (t : StationTable) (s : State) : (setTable t s).occ = s.occ := rfl
@[simp] theorem setTable_groups (t : StationTable) (s : State) : (setTable t s).groups = s.groups := rfl
@[simp] theorem setTable_events (t : StationTable) (s : State) : (setTable t s).events = s.events := rfl
@[simp] theorem setTable_out (t : StationTable) (s : State) : (setTable t s).out = s.out := rfl
@[simp] theorem setTable_batches (t : StationTable) (s : State) : (setTable t s).batches = s.batches := rfl
@[simp] theorem setTable_archive (t : StationTable) (s : State) : (setTable t s).archive = s.archive := rfl
@[simp] theorem setTable_link (t : StationTable) (s : State) : (setTable t s).link = s.link := rfl
@[simp] theorem setTable_pins (t : StationTable) (s : State) : (setTable t s).pins = s.pins := rfl
@[simp] theorem setTable_choices (t : StationTable) (s : State) : (setTable t s).choices = s.choices := rfl

@[simp] theorem setRing_pending (n : Head) (r : Ring) (s : State) : (setRing n r s).pending = s.pending := rfl
@[simp] theorem setRing_sys (n : Head) (r : Ring) (s : State) : (setRing n r s).sys = s.sys := rfl
@[simp] theorem setRing_settings (n : Head) (r : Ring) (s : State) : (setRing n r s).settings = s.settings := rfl
@[simp] theorem setRing_clock (n : Head) (r : Ring) (s : State) : (setRing n r s).clock = s.clock := rfl
@[simp] theorem setRing_pages (n : Head) (r : Ring) (s : State) : (setRing n r s).pages = s.pages := rfl
@[simp] theorem setRing_ports (n : Head) (r : Ring) (s : State) : (setRing n r s).ports = s.ports := rfl
@[simp] theorem setRing_partitions (n : Head) (r : Ring) (s : State) : (setRing n r s).partitions = s.partitions := rfl
@[simp] theorem setRing_corr (n : Head) (r : Ring) (s : State) : (setRing n r s).corr = s.corr := rfl
@[simp] theorem setRing_cal (n : Head) (r : Ring) (s : State) : (setRing n r s).cal = s.cal := rfl
@[simp] theorem setRing_table (n : Head) (r : Ring) (s : State) : (setRing n r s).table = s.table := rfl
@[simp] theorem setRing_occ (n : Head) (r : Ring) (s : State) : (setRing n r s).occ = s.occ := rfl
@[simp] theorem setRing_groups (n : Head) (r : Ring) (s : State) : (setRing n r s).groups = s.groups := rfl
@[simp] theorem setRing_events (n : Head) (r : Ring) (s : State) : (setRing n r s).events = s.events := rfl
@[simp] theorem setRing_out (n : Head) (r : Ring) (s : State) : (setRing n r s).out = s.out := rfl
@[simp] theorem setRing_batches (n : Head) (r : Ring) (s : State) : (setRing n r s).batches = s.batches := rfl
@[simp] theorem setRing_archive (n : Head) (r : Ring) (s : State) : (setRing n r s).archive = { s.archive with rings := s.archive.rings.set n r } := rfl
@[simp] theorem setRing_link (n : Head) (r : Ring) (s : State) : (setRing n r s).link = s.link := rfl
@[simp] theorem setRing_pins (n : Head) (r : Ring) (s : State) : (setRing n r s).pins = s.pins := rfl
@[simp] theorem setRing_choices (n : Head) (r : Ring) (s : State) : (setRing n r s).choices = s.choices := rfl

@[simp] theorem setDump_pending (d : Option Dump) (s : State) : (setDump d s).pending = s.pending := rfl
@[simp] theorem setDump_sys (d : Option Dump) (s : State) : (setDump d s).sys = s.sys := rfl
@[simp] theorem setDump_settings (d : Option Dump) (s : State) : (setDump d s).settings = s.settings := rfl
@[simp] theorem setDump_clock (d : Option Dump) (s : State) : (setDump d s).clock = s.clock := rfl
@[simp] theorem setDump_pages (d : Option Dump) (s : State) : (setDump d s).pages = s.pages := rfl
@[simp] theorem setDump_ports (d : Option Dump) (s : State) : (setDump d s).ports = s.ports := rfl
@[simp] theorem setDump_partitions (d : Option Dump) (s : State) : (setDump d s).partitions = s.partitions := rfl
@[simp] theorem setDump_corr (d : Option Dump) (s : State) : (setDump d s).corr = s.corr := rfl
@[simp] theorem setDump_cal (d : Option Dump) (s : State) : (setDump d s).cal = s.cal := rfl
@[simp] theorem setDump_table (d : Option Dump) (s : State) : (setDump d s).table = s.table := rfl
@[simp] theorem setDump_occ (d : Option Dump) (s : State) : (setDump d s).occ = s.occ := rfl
@[simp] theorem setDump_groups (d : Option Dump) (s : State) : (setDump d s).groups = s.groups := rfl
@[simp] theorem setDump_events (d : Option Dump) (s : State) : (setDump d s).events = s.events := rfl
@[simp] theorem setDump_out (d : Option Dump) (s : State) : (setDump d s).out = s.out := rfl
@[simp] theorem setDump_batches (d : Option Dump) (s : State) : (setDump d s).batches = s.batches := rfl
@[simp] theorem setDump_archive (d : Option Dump) (s : State) : (setDump d s).archive = { s.archive with dump := d } := rfl
@[simp] theorem setDump_link (d : Option Dump) (s : State) : (setDump d s).link = s.link := rfl
@[simp] theorem setDump_pins (d : Option Dump) (s : State) : (setDump d s).pins = s.pins := rfl
@[simp] theorem setDump_choices (d : Option Dump) (s : State) : (setDump d s).choices = s.choices := rfl

@[simp] theorem setLag_pending (n : Head) (l : Option LagState) (s : State) : (setLag n l s).pending = s.pending := rfl
@[simp] theorem setLag_sys (n : Head) (l : Option LagState) (s : State) : (setLag n l s).sys = s.sys := rfl
@[simp] theorem setLag_settings (n : Head) (l : Option LagState) (s : State) : (setLag n l s).settings = s.settings := rfl
@[simp] theorem setLag_clock (n : Head) (l : Option LagState) (s : State) : (setLag n l s).clock = s.clock := rfl
@[simp] theorem setLag_pages (n : Head) (l : Option LagState) (s : State) : (setLag n l s).pages = s.pages := rfl
@[simp] theorem setLag_ports (n : Head) (l : Option LagState) (s : State) : (setLag n l s).ports = s.ports := rfl
@[simp] theorem setLag_partitions (n : Head) (l : Option LagState) (s : State) : (setLag n l s).partitions = s.partitions := rfl
@[simp] theorem setLag_corr (n : Head) (l : Option LagState) (s : State) : (setLag n l s).corr = s.corr := rfl
@[simp] theorem setLag_cal (n : Head) (l : Option LagState) (s : State) : (setLag n l s).cal = { s.cal with lag := s.cal.lag.set n l } := rfl
@[simp] theorem setLag_table (n : Head) (l : Option LagState) (s : State) : (setLag n l s).table = s.table := rfl
@[simp] theorem setLag_occ (n : Head) (l : Option LagState) (s : State) : (setLag n l s).occ = s.occ := rfl
@[simp] theorem setLag_groups (n : Head) (l : Option LagState) (s : State) : (setLag n l s).groups = s.groups := rfl
@[simp] theorem setLag_events (n : Head) (l : Option LagState) (s : State) : (setLag n l s).events = s.events := rfl
@[simp] theorem setLag_out (n : Head) (l : Option LagState) (s : State) : (setLag n l s).out = s.out := rfl
@[simp] theorem setLag_batches (n : Head) (l : Option LagState) (s : State) : (setLag n l s).batches = s.batches := rfl
@[simp] theorem setLag_archive (n : Head) (l : Option LagState) (s : State) : (setLag n l s).archive = s.archive := rfl
@[simp] theorem setLag_link (n : Head) (l : Option LagState) (s : State) : (setLag n l s).link = s.link := rfl
@[simp] theorem setLag_pins (n : Head) (l : Option LagState) (s : State) : (setLag n l s).pins = s.pins := rfl
@[simp] theorem setLag_choices (n : Head) (l : Option LagState) (s : State) : (setLag n l s).choices = s.choices := rfl

@[simp] theorem setStaged_pending (n : Head) (r : Option CalRecord) (s : State) : (setStaged n r s).pending = s.pending := rfl
@[simp] theorem setStaged_sys (n : Head) (r : Option CalRecord) (s : State) : (setStaged n r s).sys = s.sys := rfl
@[simp] theorem setStaged_settings (n : Head) (r : Option CalRecord) (s : State) : (setStaged n r s).settings = s.settings := rfl
@[simp] theorem setStaged_clock (n : Head) (r : Option CalRecord) (s : State) : (setStaged n r s).clock = s.clock := rfl
@[simp] theorem setStaged_pages (n : Head) (r : Option CalRecord) (s : State) : (setStaged n r s).pages = s.pages := rfl
@[simp] theorem setStaged_ports (n : Head) (r : Option CalRecord) (s : State) : (setStaged n r s).ports = s.ports := rfl
@[simp] theorem setStaged_partitions (n : Head) (r : Option CalRecord) (s : State) : (setStaged n r s).partitions = s.partitions := rfl
@[simp] theorem setStaged_corr (n : Head) (r : Option CalRecord) (s : State) : (setStaged n r s).corr = s.corr := rfl
@[simp] theorem setStaged_cal (n : Head) (r : Option CalRecord) (s : State) : (setStaged n r s).cal = { s.cal with staged := s.cal.staged.set n r } := rfl
@[simp] theorem setStaged_table (n : Head) (r : Option CalRecord) (s : State) : (setStaged n r s).table = s.table := rfl
@[simp] theorem setStaged_occ (n : Head) (r : Option CalRecord) (s : State) : (setStaged n r s).occ = s.occ := rfl
@[simp] theorem setStaged_groups (n : Head) (r : Option CalRecord) (s : State) : (setStaged n r s).groups = s.groups := rfl
@[simp] theorem setStaged_events (n : Head) (r : Option CalRecord) (s : State) : (setStaged n r s).events = s.events := rfl
@[simp] theorem setStaged_out (n : Head) (r : Option CalRecord) (s : State) : (setStaged n r s).out = s.out := rfl
@[simp] theorem setStaged_batches (n : Head) (r : Option CalRecord) (s : State) : (setStaged n r s).batches = s.batches := rfl
@[simp] theorem setStaged_archive (n : Head) (r : Option CalRecord) (s : State) : (setStaged n r s).archive = s.archive := rfl
@[simp] theorem setStaged_link (n : Head) (r : Option CalRecord) (s : State) : (setStaged n r s).link = s.link := rfl
@[simp] theorem setStaged_pins (n : Head) (r : Option CalRecord) (s : State) : (setStaged n r s).pins = s.pins := rfl
@[simp] theorem setStaged_choices (n : Head) (r : Option CalRecord) (s : State) : (setStaged n r s).choices = s.choices := rfl

@[simp] theorem setCommitted_pending (n : Head) (c : Committed) (s : State) : (setCommitted n c s).pending = s.pending := rfl
@[simp] theorem setCommitted_sys (n : Head) (c : Committed) (s : State) : (setCommitted n c s).sys = s.sys := rfl
@[simp] theorem setCommitted_settings (n : Head) (c : Committed) (s : State) : (setCommitted n c s).settings = { s.settings with cal := s.settings.cal.set n c } := rfl
@[simp] theorem setCommitted_clock (n : Head) (c : Committed) (s : State) : (setCommitted n c s).clock = s.clock := rfl
@[simp] theorem setCommitted_pages (n : Head) (c : Committed) (s : State) : (setCommitted n c s).pages = s.pages := rfl
@[simp] theorem setCommitted_ports (n : Head) (c : Committed) (s : State) : (setCommitted n c s).ports = s.ports := rfl
@[simp] theorem setCommitted_partitions (n : Head) (c : Committed) (s : State) : (setCommitted n c s).partitions = s.partitions := rfl
@[simp] theorem setCommitted_corr (n : Head) (c : Committed) (s : State) : (setCommitted n c s).corr = s.corr := rfl
@[simp] theorem setCommitted_cal (n : Head) (c : Committed) (s : State) : (setCommitted n c s).cal = s.cal := rfl
@[simp] theorem setCommitted_table (n : Head) (c : Committed) (s : State) : (setCommitted n c s).table = s.table := rfl
@[simp] theorem setCommitted_occ (n : Head) (c : Committed) (s : State) : (setCommitted n c s).occ = s.occ := rfl
@[simp] theorem setCommitted_groups (n : Head) (c : Committed) (s : State) : (setCommitted n c s).groups = s.groups := rfl
@[simp] theorem setCommitted_events (n : Head) (c : Committed) (s : State) : (setCommitted n c s).events = s.events := rfl
@[simp] theorem setCommitted_out (n : Head) (c : Committed) (s : State) : (setCommitted n c s).out = s.out := rfl
@[simp] theorem setCommitted_batches (n : Head) (c : Committed) (s : State) : (setCommitted n c s).batches = s.batches := rfl
@[simp] theorem setCommitted_archive (n : Head) (c : Committed) (s : State) : (setCommitted n c s).archive = s.archive := rfl
@[simp] theorem setCommitted_link (n : Head) (c : Committed) (s : State) : (setCommitted n c s).link = s.link := rfl
@[simp] theorem setCommitted_pins (n : Head) (c : Committed) (s : State) : (setCommitted n c s).pins = s.pins := rfl
@[simp] theorem setCommitted_choices (n : Head) (c : Committed) (s : State) : (setCommitted n c s).choices = s.choices := rfl

@[simp] theorem setClock_pending (c : Clock) (s : State) : (setClock c s).pending = s.pending := rfl
@[simp] theorem setClock_sys (c : Clock) (s : State) : (setClock c s).sys = s.sys := rfl
@[simp] theorem setClock_settings (c : Clock) (s : State) : (setClock c s).settings = s.settings := rfl
@[simp] theorem setClock_clock (c : Clock) (s : State) : (setClock c s).clock = c := rfl
@[simp] theorem setClock_pages (c : Clock) (s : State) : (setClock c s).pages = s.pages := rfl
@[simp] theorem setClock_ports (c : Clock) (s : State) : (setClock c s).ports = s.ports := rfl
@[simp] theorem setClock_partitions (c : Clock) (s : State) : (setClock c s).partitions = s.partitions := rfl
@[simp] theorem setClock_corr (c : Clock) (s : State) : (setClock c s).corr = s.corr := rfl
@[simp] theorem setClock_cal (c : Clock) (s : State) : (setClock c s).cal = s.cal := rfl
@[simp] theorem setClock_table (c : Clock) (s : State) : (setClock c s).table = s.table := rfl
@[simp] theorem setClock_occ (c : Clock) (s : State) : (setClock c s).occ = s.occ := rfl
@[simp] theorem setClock_groups (c : Clock) (s : State) : (setClock c s).groups = s.groups := rfl
@[simp] theorem setClock_events (c : Clock) (s : State) : (setClock c s).events = s.events := rfl
@[simp] theorem setClock_out (c : Clock) (s : State) : (setClock c s).out = s.out := rfl
@[simp] theorem setClock_batches (c : Clock) (s : State) : (setClock c s).batches = s.batches := rfl
@[simp] theorem setClock_archive (c : Clock) (s : State) : (setClock c s).archive = s.archive := rfl
@[simp] theorem setClock_link (c : Clock) (s : State) : (setClock c s).link = s.link := rfl
@[simp] theorem setClock_pins (c : Clock) (s : State) : (setClock c s).pins = s.pins := rfl
@[simp] theorem setClock_choices (c : Clock) (s : State) : (setClock c s).choices = s.choices := rfl

@[simp] theorem setTide_pending (x : TideState) (s : State) : (setTide x s).pending = s.pending := rfl
@[simp] theorem setTide_sys (x : TideState) (s : State) : (setTide x s).sys = s.sys := rfl
@[simp] theorem setTide_settings (x : TideState) (s : State) : (setTide x s).settings = s.settings := rfl
@[simp] theorem setTide_clock (x : TideState) (s : State) : (setTide x s).clock = s.clock := rfl
@[simp] theorem setTide_pages (x : TideState) (s : State) : (setTide x s).pages = { s.pages with tide := x } := rfl
@[simp] theorem setTide_ports (x : TideState) (s : State) : (setTide x s).ports = s.ports := rfl
@[simp] theorem setTide_partitions (x : TideState) (s : State) : (setTide x s).partitions = s.partitions := rfl
@[simp] theorem setTide_corr (x : TideState) (s : State) : (setTide x s).corr = s.corr := rfl
@[simp] theorem setTide_cal (x : TideState) (s : State) : (setTide x s).cal = s.cal := rfl
@[simp] theorem setTide_table (x : TideState) (s : State) : (setTide x s).table = s.table := rfl
@[simp] theorem setTide_occ (x : TideState) (s : State) : (setTide x s).occ = s.occ := rfl
@[simp] theorem setTide_groups (x : TideState) (s : State) : (setTide x s).groups = s.groups := rfl
@[simp] theorem setTide_events (x : TideState) (s : State) : (setTide x s).events = s.events := rfl
@[simp] theorem setTide_out (x : TideState) (s : State) : (setTide x s).out = s.out := rfl
@[simp] theorem setTide_batches (x : TideState) (s : State) : (setTide x s).batches = s.batches := rfl
@[simp] theorem setTide_archive (x : TideState) (s : State) : (setTide x s).archive = s.archive := rfl
@[simp] theorem setTide_link (x : TideState) (s : State) : (setTide x s).link = s.link := rfl
@[simp] theorem setTide_pins (x : TideState) (s : State) : (setTide x s).pins = s.pins := rfl
@[simp] theorem setTide_choices (x : TideState) (s : State) : (setTide x s).choices = s.choices := rfl

@[simp] theorem setIntake_pending (l : List Instr) (s : State) : (setIntake l s).pending = s.pending := rfl
@[simp] theorem setIntake_sys (l : List Instr) (s : State) : (setIntake l s).sys = s.sys := rfl
@[simp] theorem setIntake_settings (l : List Instr) (s : State) : (setIntake l s).settings = s.settings := rfl
@[simp] theorem setIntake_clock (l : List Instr) (s : State) : (setIntake l s).clock = s.clock := rfl
@[simp] theorem setIntake_pages (l : List Instr) (s : State) : (setIntake l s).pages = s.pages := rfl
@[simp] theorem setIntake_ports (l : List Instr) (s : State) : (setIntake l s).ports = s.ports := rfl
@[simp] theorem setIntake_partitions (l : List Instr) (s : State) : (setIntake l s).partitions = s.partitions := rfl
@[simp] theorem setIntake_corr (l : List Instr) (s : State) : (setIntake l s).corr = s.corr := rfl
@[simp] theorem setIntake_cal (l : List Instr) (s : State) : (setIntake l s).cal = s.cal := rfl
@[simp] theorem setIntake_table (l : List Instr) (s : State) : (setIntake l s).table = s.table := rfl
@[simp] theorem setIntake_occ (l : List Instr) (s : State) : (setIntake l s).occ = s.occ := rfl
@[simp] theorem setIntake_groups (l : List Instr) (s : State) : (setIntake l s).groups = s.groups := rfl
@[simp] theorem setIntake_events (l : List Instr) (s : State) : (setIntake l s).events = s.events := rfl
@[simp] theorem setIntake_out (l : List Instr) (s : State) : (setIntake l s).out = s.out := rfl
@[simp] theorem setIntake_batches (l : List Instr) (s : State) : (setIntake l s).batches = s.batches := rfl
@[simp] theorem setIntake_archive (l : List Instr) (s : State) : (setIntake l s).archive = s.archive := rfl
@[simp] theorem setIntake_link (l : List Instr) (s : State) : (setIntake l s).link = { s.link with intake := l } := rfl
@[simp] theorem setIntake_pins (l : List Instr) (s : State) : (setIntake l s).pins = s.pins := rfl
@[simp] theorem setIntake_choices (l : List Instr) (s : State) : (setIntake l s).choices = s.choices := rfl

@[simp] theorem setLinkReceiver_pending (r : Receiver) (s : State) : (setLinkReceiver r s).pending = s.pending := rfl
@[simp] theorem setLinkReceiver_sys (r : Receiver) (s : State) : (setLinkReceiver r s).sys = s.sys := rfl
@[simp] theorem setLinkReceiver_settings (r : Receiver) (s : State) : (setLinkReceiver r s).settings = s.settings := rfl
@[simp] theorem setLinkReceiver_clock (r : Receiver) (s : State) : (setLinkReceiver r s).clock = s.clock := rfl
@[simp] theorem setLinkReceiver_pages (r : Receiver) (s : State) : (setLinkReceiver r s).pages = s.pages := rfl
@[simp] theorem setLinkReceiver_ports (r : Receiver) (s : State) : (setLinkReceiver r s).ports = s.ports := rfl
@[simp] theorem setLinkReceiver_partitions (r : Receiver) (s : State) : (setLinkReceiver r s).partitions = s.partitions := rfl
@[simp] theorem setLinkReceiver_corr (r : Receiver) (s : State) : (setLinkReceiver r s).corr = s.corr := rfl
@[simp] theorem setLinkReceiver_cal (r : Receiver) (s : State) : (setLinkReceiver r s).cal = s.cal := rfl
@[simp] theorem setLinkReceiver_table (r : Receiver) (s : State) : (setLinkReceiver r s).table = s.table := rfl
@[simp] theorem setLinkReceiver_occ (r : Receiver) (s : State) : (setLinkReceiver r s).occ = s.occ := rfl
@[simp] theorem setLinkReceiver_groups (r : Receiver) (s : State) : (setLinkReceiver r s).groups = s.groups := rfl
@[simp] theorem setLinkReceiver_events (r : Receiver) (s : State) : (setLinkReceiver r s).events = s.events := rfl
@[simp] theorem setLinkReceiver_out (r : Receiver) (s : State) : (setLinkReceiver r s).out = s.out := rfl
@[simp] theorem setLinkReceiver_batches (r : Receiver) (s : State) : (setLinkReceiver r s).batches = s.batches := rfl
@[simp] theorem setLinkReceiver_archive (r : Receiver) (s : State) : (setLinkReceiver r s).archive = s.archive := rfl
@[simp] theorem setLinkReceiver_link (r : Receiver) (s : State) : (setLinkReceiver r s).link = { s.link with rx := r } := rfl
@[simp] theorem setLinkReceiver_pins (r : Receiver) (s : State) : (setLinkReceiver r s).pins = s.pins := rfl
@[simp] theorem setLinkReceiver_choices (r : Receiver) (s : State) : (setLinkReceiver r s).choices = s.choices := rfl

end Sys2Proof.Machine
end

