-- ==== Sys2Proof/Laws/Ops.lean ====
section
/-! SUPPORT. What each shared operation can do, once: which fields it may change (the frame laws), and what it gives when the
queue has room and the event unit is quiet. -/

namespace Sys2Proof.Machine

/-! ## Frames: every field not named is kept -/

theorem raise_frame (i : Source) (s : State) : ∃ e, raise i s = { s with events := e } := by
  unfold raise; split
  · exact ⟨_, rfl⟩
  · exact ⟨s.events, rfl⟩

theorem join_frame (m : Message) (s : State) : ∃ o e, join m s = { s with out := o, events := e } := by
  unfold join; split
  · split
    · obtain ⟨e, he⟩ := raise_frame 7 { s with out := pushMessage s.settings.high s.pins.linkReady m s.out }
      exact ⟨_, e, he⟩
    · exact ⟨_, s.events, rfl⟩
  · exact ⟨s.out, s.events, rfl⟩

theorem offerNotice_frame (n : Notice) (s : State) : ∃ o e, offerNotice n s = { s with out := o, events := e } := by
  unfold offerNotice; split
  · exact join_frame _ s
  · exact ⟨_, s.events, rfl⟩

theorem reply_frame (h : Header) (k : Nat) (st : Status) (d : ReplyData) (s : State) :
    ∃ o e, reply h k st d s = { s with out := o, events := e } := join_frame _ s

theorem done_frame (h : Header) (k : Kind) (d : ReplyData) (s : State) :
    ∃ o e, done h k d s = { s with out := o, events := e } := join_frame _ s

theorem offerBatch_frame (n : Head) (c : BatchCause) (s : State) :
    ∃ o e b, offerBatch n c s = { s with out := o, events := e, batches := b } := by
  unfold offerBatch; split
  · obtain ⟨o, e, h⟩ := join_frame (.batch n c s.batches[n].records) (setBatch n { records := [], expiry := none } s)
    exact ⟨o, e, _, h⟩
  · exact ⟨_, s.events, _, rfl⟩

theorem leaveList_frame (c : Context) (s : State) : ∃ g, leaveList c s = { s with groups := g } := by
  unfold leaveList; split
  · exact ⟨s.groups, rfl⟩
  · dsimp only
    split
    · exact ⟨_, rfl⟩
    · exact ⟨s.groups, rfl⟩

theorem startMember_frame (f : Context → Context) (s : State) (tag : Nat) : ∃ o, startMember f s tag = { s with occ := o } := by
  unfold startMember; split
  · exact ⟨s.occ, rfl⟩
  · split
    · exact ⟨s.occ, rfl⟩
    · exact ⟨_, rfl⟩

theorem startMembers_frame (f : Context → Context) (l : List Nat) (s : State) :
    ∃ o, l.foldl (startMember f) s = { s with occ := o } := by
  induction l generalizing s with
  | nil => exact ⟨s.occ, rfl⟩
  | cons t l ih =>
    obtain ⟨o, h⟩ := startMember_frame f s t
    obtain ⟨o', h'⟩ := ih { s with occ := o }
    exact ⟨o', by rw [List.foldl_cons, h, h']⟩

theorem jointRelease_frame (g : Group) (s : State) :
    ∃ o e c j, jointRelease g s = { s with out := o, events := e, occ := c, groups := j } := by
  unfold jointRelease
  obtain ⟨c, hc⟩ := startMembers_frame
    (fun c => { c with acc := { c.acc with joint := some (nextRun s.groups[g].run, now s) } }) s.groups[g].arrivals s
  simp only [hc]
  obtain ⟨o, e, h⟩ := offerNotice_frame
    (.jointRelease g (nextRun s.groups[g].run) (now s) (membersOf s.occ s.groups[g].arrivals))
    (setGroup g { arrivals := [], timer := none, run := nextRun s.groups[g].run } { s with occ := c })
  exact ⟨o, e, c, _, h⟩

theorem gatheringEnds_frame (g : Group) (s : State) :
    ∃ o e c j, gatheringEnds g s = { s with out := o, events := e, occ := c, groups := j } := by
  unfold gatheringEnds
  obtain ⟨c, hc⟩ := startMembers_frame (fun c => { c with flags := { c.flags with unjoined := true } }) s.groups[g].arrivals s
  simp only [hc]
  obtain ⟨o, e, h⟩ := offerNotice_frame (.unjoined g (membersOf s.occ s.groups[g].arrivals))
    (setGroup g { arrivals := [], timer := none, run := s.groups[g].run } { s with occ := c })
  exact ⟨o, e, c, _, h⟩

theorem arrive_frame (n : Head) (c : Context) (g : Group) (s : State) :
    ∃ o e oc j, arrive n c g s = { s with out := o, events := e, occ := oc, groups := j } := by
  unfold arrive
  dsimp only
  split
  · obtain ⟨o, e, oc, j, h⟩ := jointRelease_frame g (setGroup g
      { s.groups[g] with
        arrivals := s.groups[g].arrivals ++ [c.tag]
        timer := if s.groups[g].arrivals.isEmpty then some ((now s : Int) + 1000 * s.settings.groups[g].waitLimit)
          else s.groups[g].timer } (setActive n (some { c with state := .waiting }) s))
    exact ⟨o, e, oc, j, h⟩
  · exact ⟨s.out, s.events, _, _, rfl⟩

theorem settleEnds_frame (n : Head) (s : State) :
    ∃ o e oc j, settleEnds n s = { s with out := o, events := e, occ := oc, groups := j } := by
  unfold settleEnds
  split
  · exact ⟨s.out, s.events, s.occ, s.groups, rfl⟩
  · split
    · exact ⟨s.out, s.events, s.occ, s.groups, rfl⟩
    · exact ⟨s.out, s.events, _, s.groups, rfl⟩
    · exact arrive_frame _ _ _ _

theorem passSettle_frame (n : Head) (s : State) :
    ∃ o e oc j, passSettle n s = { s with out := o, events := e, occ := oc, groups := j } := by
  unfold passSettle
  split
  · exact ⟨s.out, s.events, s.occ, s.groups, rfl⟩
  · split
    · exact settleEnds_frame n s
    · exact ⟨s.out, s.events, s.occ, s.groups, rfl⟩

theorem enterHeld_frame (n : Head) (c : Context) (r : HoldReason) (s : State) :
    ∃ oc j, enterHeld n c r s = { s with occ := oc, groups := j } := by
  unfold enterHeld
  obtain ⟨g, h⟩ := leaveList_frame c (setActive n (some { c with state := .held r, acc := leaveState (now s) c }) s)
  exact ⟨_, g, h⟩

theorem holdByEvent_frame (n : Head) (c : Context) (i : Source) (s : State) :
    ∃ o e oc j, holdByEvent n c i s = { s with out := o, events := e, occ := oc, groups := j } := by
  unfold holdByEvent
  obtain ⟨oc, j, h⟩ := enterHeld_frame n c .event s
  rw [h]
  obtain ⟨o, e, h'⟩ := offerNotice_frame (.contextHold c.tag c.head (stateName c.state) (.source i))
    { s with occ := oc, groups := j }
  exact ⟨o, e, oc, j, h'⟩

theorem faultHalt_frame (n : Head) (f : FaultCause) (s : State) :
    ∃ o e oc j, faultHalt n f s = { s with out := o, events := e, occ := oc, groups := j } := by
  unfold faultHalt
  split
  · exact ⟨s.out, s.events, s.occ, s.groups, rfl⟩
  · rename_i c _
    split
    · obtain ⟨oc, j, h⟩ := enterHeld_frame n { c with flags := { c.flags with faultHeld := true } } .fault s
      rw [h]
      obtain ⟨o, e, h'⟩ := offerNotice_frame (.contextHold c.tag c.head (stateName c.state) (.cause f))
        { s with occ := oc, groups := j }
      exact ⟨o, e, oc, j, h'⟩
    · exact ⟨s.out, s.events, s.occ, s.groups, rfl⟩

theorem setCause_frame (n : Head) (f : FaultCause) (s : State) :
    ∃ o e oc j p, setCause n f s = { s with out := o, events := e, occ := oc, groups := j, ports := p } := by
  unfold setCause
  dsimp only
  split
  · exact ⟨s.out, s.events, s.occ, s.groups, s.ports, rfl⟩
  · have h2 : ∃ o e, (if inSet s.settings.heads[n].notify (causeIndex f) = true then
          offerNotice (.fault n f (withMember s.ports[n].status (causeIndex f)))
            (setPort n { s.ports[n] with status := withMember s.ports[n].status (causeIndex f) } s)
        else setPort n { s.ports[n] with status := withMember s.ports[n].status (causeIndex f) } s) =
        { s with
          out := o
          events := e
          ports := s.ports.set n { s.ports[n] with status := withMember s.ports[n].status (causeIndex f) } } := by
      split
      · obtain ⟨o, e, h⟩ := offerNotice_frame (.fault n f (withMember s.ports[n].status (causeIndex f)))
          (setPort n { s.ports[n] with status := withMember s.ports[n].status (causeIndex f) } s)
        exact ⟨o, e, h⟩
      · exact ⟨s.out, s.events, rfl⟩
    obtain ⟨o, e, h⟩ := h2
    rw [h]
    split
    · obtain ⟨o', e', oc, j, h'⟩ := faultHalt_frame n f
        { s with
          out := o
          events := e
          ports := s.ports.set n { s.ports[n] with status := withMember s.ports[n].status (causeIndex f) } }
      exact ⟨o', e', oc, j, _, h'⟩
    · exact ⟨o, e, s.occ, s.groups, _, rfl⟩

theorem releaseHeld_frame (n : Head) (c : Context) (s : State) :
    ∃ o e oc j, releaseHeld n c s = { s with out := o, events := e, occ := oc, groups := j } := by
  unfold releaseHeld
  split
  · obtain ⟨o, e, oc, j, h⟩ := passSettle_frame n (setActive n (some (settled (now s) c)) s)
    exact ⟨o, e, oc, j, h⟩
  · exact ⟨s.out, s.events, _, s.groups, rfl⟩

theorem unbindTag_frame (tag : Nat) (s : State) : ∃ k, unbindTag tag s = { s with corr := k } := by
  unfold unbindTag
  split
  · exact ⟨s.corr, rfl⟩
  · split
    · exact ⟨_, rfl⟩
    · exact ⟨s.corr, rfl⟩

theorem freeActive_frame (n : Head) (c : Context) (s : State) :
    ∃ oc j t k, freeActive n c s = { s with occ := oc, groups := j, table := t, corr := k } := by
  unfold freeActive
  obtain ⟨j, hj⟩ := leaveList_frame c s
  rw [hj]
  obtain ⟨k, hk⟩ := unbindTag_frame c.tag (dropStation c.station { s with groups := j })
  rw [hk]
  exact ⟨_, j, _, k, rfl⟩

theorem freeStored_frame (k : StoreSlotId) (c : Context) (s : State) :
    ∃ oc t u, freeStored k c s = { s with occ := oc, table := t, corr := u } := by
  unfold freeStored
  obtain ⟨u, hu⟩ := unbindTag_frame c.tag (dropStation c.station s)
  rw [hu]
  exact ⟨_, _, u, rfl⟩

theorem joinReading_frame (s : State) :
    ∃ o e oc j t k, joinReading s = { s with out := o, events := e, occ := oc, groups := j, table := t, corr := k } := by
  unfold joinReading
  have keep : ∃ o e oc j t k, s = { s with out := o, events := e, occ := oc, groups := j, table := t, corr := k } :=
    ⟨s.out, s.events, s.occ, s.groups, s.table, s.corr, rfl⟩
  split
  · exact keep
  · rename_i n _ _
    split
    · split
      · exact keep
      · rename_i c _
        split
        · exact keep
        · rename_i r _
          obtain ⟨o, e, h⟩ := join_frame (.reading (makeReading c r)) s
          rw [h]
          obtain ⟨oc, j, t, k, h'⟩ := freeActive_frame n c { s with out := o, events := e }
          exact ⟨o, e, oc, j, t, k, h'⟩
    · exact keep

theorem offerReadings_frame (s : State) :
    ∃ o e oc j t k, offerReadings s = { s with out := o, events := e, occ := oc, groups := j, table := t, corr := k } := by
  unfold offerReadings
  obtain ⟨o1, e1, c1, j1, t1, k1, h1⟩ := joinReading_frame s
  rw [h1]
  obtain ⟨o2, e2, c2, j2, t2, k2, h2⟩ := joinReading_frame
    { s with out := o1, events := e1, occ := c1, groups := j1, table := t1, corr := k1 }
  rw [h2]
  obtain ⟨o3, e3, c3, j3, t3, k3, h3⟩ := joinReading_frame
    { s with out := o2, events := e2, occ := c2, groups := j2, table := t2, corr := k2 }
  rw [h3]
  obtain ⟨o4, e4, c4, j4, t4, k4, h4⟩ := joinReading_frame
    { s with out := o3, events := e3, occ := c3, groups := j3, table := t3, corr := k3 }
  exact ⟨o4, e4, c4, j4, t4, k4, h4⟩

theorem complete_frame (n : Head) (c : Context) (r : CompletionReason) (s : State) :
    ∃ o e oc j t k, complete n c r s = { s with out := o, events := e, occ := oc, groups := j, table := t, corr := k } := by
  unfold complete enterComplete
  obtain ⟨g, hg⟩ := leaveList_frame c
    (setActive n (some { c with state := .complete r, acc := { leaveState (now s) c with completion := some (now s) } }) s)
  simp only [hg]
  exact offerReadings_frame _

theorem dispatchHead_frame (i : Source) (x : Dispatched) (n : Head) :
    ∃ o e oc j, (dispatchHead i x n).state = { x.state with out := o, events := e, occ := oc, groups := j } := by
  have keep : ∃ o e oc j, x.state = { x.state with out := o, events := e, occ := oc, groups := j } :=
    ⟨x.state.out, x.state.events, x.state.occ, x.state.groups, rfl⟩
  unfold dispatchHead
  split
  · exact keep
  · rename_i c _
    split
    all_goals first
      | exact keep
      | (split
         · first
           | exact holdByEvent_frame n c i x.state
           | exact releaseHeld_frame n c x.state
         · exact keep)

theorem dispatchHeads_frame (i : Source) (l : List Head) (x : Dispatched) :
    ∃ o e oc j, (l.foldl (dispatchHead i) x).state = { x.state with out := o, events := e, occ := oc, groups := j } := by
  induction l generalizing x with
  | nil => exact ⟨x.state.out, x.state.events, x.state.occ, x.state.groups, rfl⟩
  | cons n l ih =>
    obtain ⟨o, e, oc, j, h⟩ := dispatchHead_frame i x n
    obtain ⟨o', e', oc', j', h'⟩ := ih (dispatchHead i x n)
    exact ⟨o', e', oc', j', by rw [List.foldl_cons, h', h]⟩

theorem dispatchSource_frame (i : Source) (s : State) :
    ∃ o e oc j, dispatchSource i s = { s with out := o, events := e, occ := oc, groups := j } := by
  unfold dispatchSource
  obtain ⟨o, e, oc, j, h⟩ := dispatchHeads_frame i heads { state := s, held := 0, woken := 0 }
  simp only [h]
  split
  · obtain ⟨o', e', h'⟩ := offerNotice_frame
      (.event i (levelOf i { s with out := o, events := e, occ := oc, groups := j })
        (heads.foldl (dispatchHead i) { state := s, held := 0, woken := 0 }).held
        (heads.foldl (dispatchHead i) { state := s, held := 0, woken := 0 }).woken)
      { s with out := o, events := e, occ := oc, groups := j }
    simp only [h']
    exact ⟨o', _, oc, j, rfl⟩
  · exact ⟨o, _, oc, j, rfl⟩

theorem latchNext_frame (s : State) : ∃ e, latchNext s = { s with events := e } := by
  unfold latchNext
  split
  · exact ⟨_, rfl⟩
  · exact ⟨s.events, rfl⟩
  · exact ⟨s.events, rfl⟩

theorem drainSteps_frame (k : Nat) (s : State) :
    ∃ o e oc j, drainSteps k s = { s with out := o, events := e, occ := oc, groups := j } := by
  induction k generalizing s with
  | zero => exact ⟨s.out, s.events, s.occ, s.groups, rfl⟩
  | succ k ih =>
    unfold drainSteps
    obtain ⟨e, he⟩ := latchNext_frame s
    rw [he]
    dsimp only
    split
    · exact ⟨s.out, e, s.occ, s.groups, rfl⟩
    · rename_i i _
      obtain ⟨o, e', oc, j, h⟩ := dispatchSource_frame i { s with events := e }
      rw [h]
      exact ih { s with out := o, events := e', occ := oc, groups := j }

theorem drain_frame (s : State) : ∃ o e oc j, drain s = { s with out := o, events := e, occ := oc, groups := j } :=
  drainSteps_frame 16 s

theorem evalTide_frame (s : State) : ∃ o e p, evalTide s = { s with out := o, events := e, pages := p } := by
  unfold evalTide
  split
  · exact ⟨s.out, s.events, _, rfl⟩
  · split
    · rename_i p _
      split
      · exact ⟨s.out, s.events, s.pages, rfl⟩
      · obtain ⟨o, e, h⟩ := offerNotice_frame (.pageAvailable p.number p.start p.length) (setTide .available s)
        exact ⟨o, e, _, h⟩
    · split
      · exact ⟨s.out, s.events, s.pages, rfl⟩
      · obtain ⟨o, e, h⟩ := offerNotice_frame .pageLapsed (setTide .lapsed s)
        rw [h]
        obtain ⟨e', h'⟩ := raise_frame 5 { setTide .lapsed s with out := o, events := e }
        exact ⟨o, e', _, h'⟩

/-! ## With room and a quiet event unit -/

theorem startsCongestion_of_room {k : Nat} {s : State} (hk : 0 < k) (h : RoomFor k s) : startsCongestion s = false := by
  unfold startsCongestion
  rcases h.2 with hc | hl
  · simp [hc]
  · have : ¬ s.settings.high ≤ s.out.queue.length + 1 := by omega
    simp [this]

/-- A message that finds room joins at the tail and begins no congestion. -/
theorem join_told {k : Nat} {s : State} (hk : 0 < k) (h : RoomFor k s) (m : Message) : join m s = told m s := by
  have h1 : s.out.queue.length < Config.queueSize := by have := h.1; omega
  unfold join told
  simp [h1, startsCongestion_of_room hk h]

theorem reply_answered {k : Nat} {s : State} (hk : 0 < k) (h : RoomFor k s) (hd : Header) (kd : Kind) (st : Status)
    (d : ReplyData) : reply hd kd.code st d s = answered hd kd st d s := join_told hk h _

theorem done_answered {k : Nat} {s : State} (hk : 0 < k) (h : RoomFor k s) (hd : Header) (kd : Kind) (d : ReplyData) :
    done hd kd d s = answered hd kd .done d s := join_told hk h _

theorem hasEntry_of_room {k : Nat} {s : State} (hk : 0 < k) (h : RoomFor k s) (hr : s.sys.restartPending = false) :
    hasEntry s = true := by
  have h1 : s.out.queue.length < Config.queueSize := by have := h.1; omega
  simp [hasEntry, h1, hr]

theorem offerNotice_noted {k : Nat} {s : State} (hk : 0 < k) (h : RoomFor k s) (hr : s.sys.restartPending = false)
    (n : Notice) : offerNotice n s = noted n s := by
  unfold offerNotice
  rw [hasEntry_of_room hk h hr]
  exact join_told hk h _

/-- A notice that finds no entry is lost and counted. -/
theorem offerNotice_lost {s : State} (h : hasEntry s = false) (n : Notice) : offerNotice n s = lost s := by
  simp [offerNotice, h, lost, satAdd, Config.countMax]

theorem beginTransmission_queue (r : Bool) (o : Outbound) : (beginTransmission r o).queue = o.queue := by
  unfold beginTransmission; split
  · rfl
  · split <;> rfl

theorem beginTransmission_congested (r : Bool) (o : Outbound) : (beginTransmission r o).congested = o.congested := by
  unfold beginTransmission; split
  · rfl
  · split <;> rfl

theorem told_queue (m : Message) (s : State) : (told m s).out.queue = s.out.queue ++ [m] := by
  simp [told, pushMessage, beginTransmission_queue]

theorem told_congested (m : Message) (s : State) :
    (told m s).out.congested = (s.out.congested || decide (s.settings.high ≤ s.out.queue.length + 1)) := by
  simp [told, pushMessage, beginTransmission_congested]

theorem room_told {k : Nat} {s : State} (h : RoomFor (k + 1) s) (m : Message) : RoomFor k (told m s) := by
  constructor
  · have := h.1
    simp only [told_queue, List.length_append, List.length_singleton]; omega
  · rcases h.2 with hc | hl
    · left; rw [told_congested, hc]; rfl
    · right
      simp only [told_queue, List.length_append, List.length_singleton]
      have : (told m s).settings = s.settings := rfl
      rw [this]; omega

theorem join_queue_length (m : Message) (s : State) :
    (join m s).out.queue = if s.out.queue.length < Config.queueSize then s.out.queue ++ [m] else s.out.queue := by
  unfold join
  split
  · split
    · obtain ⟨e, he⟩ := raise_frame 7 { s with out := pushMessage s.settings.high s.pins.linkReady m s.out }
      rw [he]
      simp [pushMessage, beginTransmission_queue]
    · simp [pushMessage, beginTransmission_queue]
  · rfl

theorem latchNext_quiet {s : State} (h : Quiet s) : latchNext s = s := by
  unfold latchNext; rw [h.1, h.2]

theorem drain_quiet {s : State} (h : Quiet s) : drain s = s := by
  unfold drain drainSteps
  rw [latchNext_quiet h]
  simp [h.1]

/-- Quietness rests on the event unit and the sources' settings alone. -/
theorem quiet_congr {s t : State} (he : t.events = s.events) (hs : t.settings.sources = s.settings.sources) (h : Quiet s) :
    Quiet t := by
  unfold Quiet nextSource at *
  rw [he, hs]; exact h

/-! ## The command path -/

/-- A frame that finds the controller attentive is taken as it arrives, and what the event unit then has follows. -/
theorem receive_drains {s : State} (c : Instr) (h : Attentive s) (hi : (handleFrame c s).link.intake = []) :
    receive c (drain s) = drain (handleFrame c s) := by
  obtain ⟨h1, h2, h3, h4⟩ := h
  have hno : ∀ t : State, t.link.intake = [] → takeFrame t = t := by
    intro t h; unfold takeFrame; rw [h]
  have hall : ∀ t : State, t.link.intake = [] → takeFrames t = t := by
    intro t h; unfold takeFrames; rw [hno t h, hno t h, hno t h, hno t h]
  have hset : setIntake [] (setIntake [c] s) = s := by
    have : s.link = { s.link with intake := [] } := by rw [← h1]
    unfold setIntake
    show { s with link := { s.link with intake := [] } } = s
    rw [← this]
  have hoffer : offerIntake c s = setIntake [c] s := by
    unfold offerIntake; rw [h1]; simp [Config.intakeSize, setIntake]
  have hcan : canTake (setIntake [c] s) = true := hasEntry_of_room (k := 1) (by decide) h4 h2
  have htake : takeFrame (setIntake [c] s) = drain (handleFrame c s) := by
    unfold takeFrame
    simp only [setIntake_link, hcan, if_true]
    rw [hset]
  have hempty : (drain (handleFrame c s)).link.intake = [] := by
    obtain ⟨o, e, oc, j, hd⟩ := drain_frame (handleFrame c s)
    rw [hd]; exact hi
  unfold receive
  rw [drain_quiet h3, hall s h1, hoffer]
  unfold takeFrames
  rw [htake, hno _ hempty, hno _ hempty, hno _ hempty]

/-- A frame that finds the controller attentive, and leaves the event unit quiet, is handled as it arrives. -/
theorem receive_taken {s : State} (c : Instr) (h : Attentive s) (ht : Quiet (handleFrame c s))
    (hi : (handleFrame c s).link.intake = []) : receive c (drain s) = handleFrame c s := by
  rw [receive_drains c h hi, drain_quiet ht]

/-- A link controller that finds no frame, or no entry for its reply, claims nothing. -/
theorem claimEntry_none {s : State} (h : s.link.intake = [] ∨ canTake s = false) (k : Nat) : claimEntry k s = s := by
  cases k with
  | zero => rfl
  | succ k => rcases h with h | h <;> simp [claimEntry, h]

/-- One look of the link controller that finds a frame, an entry and no other claimant: it takes the frame and looks again (R170). -/
theorem claimEntry_alone {s : State} (hi : s.link.intake ≠ []) (hc : canTake s = true) (he : eventAtHand s = false)
    (hw : waitingRival s = none) (k : Nat) : claimEntry (k + 1) s = claimEntry k (takeFrame (drain s)) := by
  simp [claimEntry, hi, hc, he, hw]

/-- With an event at hand, the controller takes the frame and looks again, or leaves the entry to the event (R143; log 26). -/
theorem claimEntry_event {s : State} (hi : s.link.intake ≠ []) (hc : canTake s = true) (he : eventAtHand s = true) (k : Nat) :
    claimEntry (k + 1) s = if Config.controllerFirst s.choices then claimEntry k (takeFrame (drain { s with choices := s.choices + 1 }))
      else { s with choices := s.choices + 1 } := by
  simp [claimEntry, hi, hc, he]

/-- With a reading or a dump waiting and no event at hand, the frame is taken or that claimant joins, and the controller looks again
(R143; log 26). -/
theorem claimEntry_rival {s : State} {i : Instr} (hi : s.link.intake ≠ []) (hc : canTake s = true) (he : eventAtHand s = false)
    (hw : waitingRival s = some i) (k : Nat) :
    claimEntry (k + 1) s = claimEntry k
      (if Config.controllerFirst s.choices then takeFrame (drain { s with choices := s.choices + 1 })
        else afterEvent i { s with choices := s.choices + 1 }) := by
  simp [claimEntry, hi, hc, he, hw]

/-- What `eventMeaning` gives for a step that is no arrival of frames, no start and no end of a transmission. -/
theorem eventMeaning_exec {i : Instr} (hf : i.isFrame = false) (hs : ∀ b, i ≠ .surveyFrame b) (ht : i ≠ .transmissionComplete)
    (hc : i ≠ .coldStart) (s : State) : exec i s = eventMeaning i s := by
  cases i <;> first | rfl | exact absurd rfl (hs _) | exact absurd rfl ht | exact absurd rfl hc | simp [Instr.isFrame, Instr.kind] at hf

/-- A command row is the arrival of its frame (log 2). -/
theorem exec_frame {i : Instr} (h : i.isFrame = true) (s : State) : exec i s = .next (receive i (drain s)) := by
  cases i <;> first | rfl | simp [Instr.isFrame, Instr.kind] at h

/-- A command that passes every ground acts. -/
theorem command_acts {α : Type} {k : Kind} {h : Header} {a : α} {ground : α → State → Option Status} {act : α → State → State}
    {s : State} (hr : s.sys.part = .ready) (hp : permitted s.settings h.sender k = true) (hg : ground a s = none) :
    command k h (.ok a) ground act s = act a s := by
  simp [command, hr, hp, hg]

/-- A command that meets a ground of its own rule is refused with it. -/
theorem command_refuses {α : Type} {k : Kind} {h : Header} {a : α} {ground : α → State → Option Status} {act : α → State → State}
    {s : State} {st : Status} (hr : s.sys.part = .ready) (hp : permitted s.settings h.sender k = true)
    (hg : ground a s = some st) : command k h (.ok a) ground act s = reply h k.code st .none s := by
  simp [command, hr, hp, hg]

/-! ## Numbers and check words -/

/-- Rounding to the nearest, a value halfway away from zero. -/
theorem roundDiv_spec (a : Int) (b : Nat) (hb : 0 < b) :
    2 * (a - roundDiv a b * b).natAbs ≤ b ∧
      (2 * (a - roundDiv a b * b).natAbs = b → a.natAbs ≤ (roundDiv a b).natAbs * b) := by
  set q := (2 * a.natAbs + b) / (2 * b) with hq
  have h1 : 2 * b * q + (2 * a.natAbs + b) % (2 * b) = 2 * a.natAbs + b := Nat.div_add_mod _ _
  have h2 : (2 * a.natAbs + b) % (2 * b) < 2 * b := Nat.mod_lt _ (by omega)
  have h3 : 2 * b * q = 2 * (q * b) := by ring
  have h4 : ((q * b : Nat) : Int) = (q : Int) * b := by push_cast; rfl
  generalize (2 * a.natAbs + b) % (2 * b) = m at *
  generalize hx : q * b = x at *
  unfold roundDiv
  simp only [← hq]
  split
  · rw [Int.neg_mul, ← h4, Int.natAbs_neg, Int.natAbs_natCast, hx]
    omega
  · rw [← h4, Int.natAbs_natCast, hx]
    omega

/-- What the exact rounding of a sum of cosines can give: the rounding of one end of its margin at 40 places, and that of both ends
where they agree. -/
theorem roundSum_ends (d : Nat) (l : CosineSum) :
    (roundSum d l = (roundedEnds d l).1 ∨ roundSum d l = (roundedEnds d l).2) ∧
      ((roundedEnds d l).1 = (roundedEnds d l).2 → roundSum d l = (roundedEnds d l).1) := by
  unfold roundSum
  constructor
  · dsimp only
    split_ifs <;> simp
  · intro h
    simp [h]

/-- A sum that lies exactly halfway between the two is rounded away from zero. -/
theorem roundSum_half {d : Nat} {l : CosineSum} (hne : (roundedEnds d l).1 ≠ (roundedEnds d l).2)
    (hz : sumVanishes (aboveHalf d ((roundedEnds d l).1 + (roundedEnds d l).2) l) = true) :
    roundSum d l = if 0 < (roundedEnds d l).1 + (roundedEnds d l).2 then (roundedEnds d l).2 else (roundedEnds d l).1 := by
  simp [roundSum, hne, hz]

theorem isqrtFrom_spec (k n r : Nat) (h1 : r * r ≤ n) (h2 : n < (r + 2 ^ k) * (r + 2 ^ k)) :
    isqrtFrom k n r * isqrtFrom k n r ≤ n ∧ n < (isqrtFrom k n r + 1) * (isqrtFrom k n r + 1) := by
  induction k generalizing r with
  | zero => simpa [isqrtFrom] using ⟨h1, h2⟩
  | succ k ih =>
    unfold isqrtFrom
    dsimp only
    split
    · rename_i h
      exact ih _ h (by rw [show r + 2 ^ k + 2 ^ k = r + 2 ^ (k + 1) by ring]; exact h2)
    · rename_i h
      exact ih _ h1 (by omega)

/-- The integer square root of every number. -/
theorem isqrt_spec (n : Nat) : isqrt n * isqrt n ≤ n ∧ n < (isqrt n + 1) * (isqrt n + 1) := by
  apply isqrtFrom_spec
  · simp
  · have h : n < 2 ^ (n.log2 + 1) := Nat.lt_log2_self
    have h2 : 2 ^ (n.log2 + 1) ≤ 2 ^ ((n.log2 / 2 + 1) + (n.log2 / 2 + 1)) :=
      Nat.pow_le_pow_right (by decide) (by omega)
    rw [Nat.pow_add 2 (n.log2 / 2 + 1)] at h2
    simp only [Nat.zero_add]; omega

/-- The register after a run of bytes is the fold of one byte after another; the match of its definition changes nothing. -/
theorem crcRun_eq (bytes : List Byte) (r : BitVec 16) : crcRun r bytes = bytes.foldl crcByte r := by
  induction bytes generalizing r with
  | nil => rfl
  | cons b l ih =>
    have h : crcRun r (b :: l) = crcRun (crcByte r b) l := by
      conv_lhs => unfold crcRun
      split
      · rename_i h; rw [show crcByte r b = 0#16 from BitVec.eq_of_toNat_eq (by simpa using h)]
      · rename_i n h; rw [show n + 1 = (crcByte r b).toNat from h.symm]; simp
    rw [h, ih, List.foldl_cons]

theorem spoilt_not_usable (i : Image) : imageUsable (spoilt i) = false := by
  have h (x : BitVec 16) : ~~~x ≠ x := fun e => by simpa using congrArg (fun y => y.getLsbD 0) e
  simp [imageUsable, spoilt, h]

/-- A written image is usable exactly when the write matched and the copy is in range (R180, R184). -/
theorem writtenImage_usable (copy : Settings) (w : Bool) : imageUsable (writtenImage copy w) = (w && settingsOk copy) := by
  unfold writtenImage
  cases w
  · simpa using spoilt_not_usable _
  · simp [imageUsable]

end Sys2Proof.Machine
end

