-- ==== Sys2Proof/Tests/Slice0.lean ====
section
/-! SUPPORT. Tests of the model: ill-formed steps, decoding, the grounds of the commands at the bounds of their operands, and, for
every statement with hypotheses, a concrete state and operands that meet them. -/

namespace Sys2Proof.Tests

open Sys2Proof Sys2Proof.Machine

-- One theorem at a time: checked side by side, these evaluations ask for more threads than the check's memory limit has stacks for.
set_option Elab.async false

/-! ## Helpers -/

/-- A frame from sender 0. -/
def hd : Header := { sender := 0, seq := 7#8 }

/-- A LIVE head, its silence timer far off. -/
def livePort : HeadPort := { State.offPort with state := .live 9000000 }

/-- A READY part, every head LIVE, the clock SET at 1,000,500 ms. -/
def base : State :=
  { State.reset with
    sys := { State.reset.sys with part := .ready }
    clock := { time := 1000500, state := .set }
    pages := { State.reset.pages with tide := .lapsed }
    ports := Vector.replicate 4 livePort }

/-- A reply that stands in the queue as filling. -/
def filler : Message := .reply hd 0 .done .none

/-- The part with so many messages in its queue. -/
def filled (n : Nat) (s : State) : State := { s with out := { s.out with queue := List.replicate n filler } }

/-- What the step answers; it never answers but with a next state. -/
def after (i : Instr) (s : State) : State :=
  match exec i s with
  | .next t => t
  | .fault _ => s
  | .refused _ => s

/-- The status of a reply; none for a message of another kind. -/
def statusOf (m : Message) : Option Status :=
  match m with
  | .reply _ _ st _ => some st
  | .reading _ | .notice _ _ | .batch _ _ _ | .dump _ _ _ => none

/-- The statuses of the messages that a step leaves in the queue. -/
def answers (i : Instr) (s : State) : List (Option Status) := (after i s).out.queue.map statusOf

/-- The test of `Taken`. -/
def takenB (k : Kind) (h : Header) (s : State) : Bool :=
  s.link.intake.isEmpty && !s.sys.restartPending && s.events.latch.isNone && (nextSource s).isNone &&
    decide (s.out.queue.length + 1 ≤ 48) && (s.out.congested || decide (s.out.queue.length + 1 < s.settings.high)) &&
    decide (s.sys.part = .ready) && permitted s.settings h.sender k

theorem taken_of {k : Kind} {h : Header} {s : State} (hb : takenB k h s = true) : Taken k h s := by
  simp only [takenB, Bool.and_eq_true, Bool.or_eq_true, decide_eq_true_eq, List.isEmpty_iff, Option.isNone_iff_eq_none,
    Bool.not_eq_true'] at hb
  obtain ⟨⟨⟨⟨⟨⟨⟨h1, h2⟩, h3⟩, h4⟩, h5⟩, h6⟩, h7⟩, h8⟩ := hb
  exact ⟨⟨h1, h2, ⟨h3, h4⟩, h5, h6⟩, h7, h8⟩

theorem quiet_of {s : State} (h : (s.events.latch.isNone && (nextSource s).isNone) = true) : Quiet s := by
  simpa [Quiet] using h

theorem room_of {k : Nat} {s : State}
    (h : (decide (s.out.queue.length + k ≤ 48) && (s.out.congested || decide (s.out.queue.length + k < s.settings.high))) = true) :
    RoomFor k s := by
  simpa [RoomFor, Config.queueSize] using h

/-- The hypothesis of every statement that asks only that a command be taken, for each kind. -/
theorem witness_Taken (k : Kind) : Taken k hd base := taken_of (by cases k <;> decide)

theorem witness_Attentive : Attentive base := (witness_Taken .status).1

theorem witness_Quiet : Quiet base := (witness_Attentive).2.2.1

theorem witness_RoomFor : RoomFor 2 base ∧ RoomFor 1 (filled 34 base) ∧
    RoomFor 1 { filled 47 base with out := { (filled 47 base).out with congested := true } } :=
  ⟨room_of (by decide), room_of (by decide), room_of (by decide)⟩

/-! ## Ill-formed steps: one for each check of a field -/

theorem test_wf_unknownKind : (Instr.unknownKindCommand hd 1#8).wf = false := by decide

theorem test_wf_senderSet : (Instr.senderSet hd (.ok ⟨256, none⟩)).wf = false := by decide

theorem test_wf_headSetup :
    (Instr.headSetup hd (.ok ⟨256, true, 0, 5, 0#5, 0#5⟩)).wf = false ∧
    (Instr.headSetup hd (.ok ⟨0, true, 4294967296, 5, 0#5, 0#5⟩)).wf = false ∧
    (Instr.headSetup hd (.ok ⟨0, true, 0, 65536, 0#5, 0#5⟩)).wf = false := by decide

theorem test_wf_byte :
    (Instr.setPlan hd (.ok 256)).wf = false ∧ (Instr.calCommit hd (.ok 256)).wf = false ∧
    (Instr.calDiscard hd (.ok 256)).wf = false ∧ (Instr.pageCommit hd (.ok 256)).wf = false ∧
    (Instr.pageDrop hd (.ok 256)).wf = false := by decide

theorem test_wf_arbSet : (Instr.arbSet hd (.ok ⟨.fixed, 256⟩)).wf = false := by decide

theorem test_wf_faultClear : (Instr.faultClear hd (.ok ⟨256, 0#5⟩)).wf = false := by decide

theorem test_wf_evtSetup : (Instr.evtSetup hd (.ok [⟨256, .off, false, false⟩])).wf = false ∧
    (Instr.evtSetup hd (.ok (List.replicate 256 ⟨0, .off, false, false⟩))).wf = false := by decide +kernel

theorem test_wf_groupSet : (Instr.groupSet hd (.ok ⟨0, some (256, 1)⟩)).wf = false ∧
    (Instr.groupSet hd (.ok ⟨0, some (2, 65536)⟩)).wf = false := by decide

theorem test_wf_queueMarks : (Instr.queueMarks hd (.ok (some (256, 4)))).wf = false ∧
    (Instr.queueMarks hd (.ok (some (8, 256)))).wf = false := by decide

theorem test_wf_streamSelect : (Instr.streamSelect hd (.ok ⟨256, true, 0#4, 0#4, 0#4, 0#4⟩)).wf = false := by decide

theorem test_wf_streamBatch : (Instr.streamBatch hd (.ok (some (256, 100)))).wf = false ∧
    (Instr.streamBatch hd (.ok (some (1, 4294967296)))).wf = false := by decide

theorem test_wf_calStage :
    (Instr.calStage hd (.ok ⟨256, .tilt ⟨0, 0, 0, 0, 0⟩⟩)).wf = false ∧
    (Instr.calStage hd (.ok ⟨0, .tilt ⟨2147483648, 0, 0, 0, 0⟩⟩)).wf = false ∧
    (Instr.calStage hd (.ok ⟨0, .tilt ⟨0, -2147483649, 0, 0, 0⟩⟩)).wf = false ∧
    (Instr.calStage hd (.ok ⟨0, .temperature ⟨0, 0, 0, 0, 65536⟩⟩)).wf = false ∧
    (Instr.calStage hd (.ok ⟨0, .table ⟨256, [], none, none⟩⟩)).wf = false ∧
    (Instr.calStage hd (.ok ⟨0, .table ⟨1, [⟨0, 140737488355328, 1⟩], none, none⟩⟩)).wf = false ∧
    (Instr.calStage hd (.ok ⟨0, .table ⟨1, [], some 256, none⟩⟩)).wf = false ∧
    (Instr.calStage hd (.ok ⟨0, .table ⟨1, [], none, some 2147483648⟩⟩)).wf = false := by decide

theorem test_wf_calRead : (Instr.calRead hd (.ok ⟨256, false, .tilt⟩)).wf = false ∧
    (Instr.calRead hd (.ok ⟨0, false, .table 256⟩)).wf = false := by decide

theorem test_wf_setTime : (Instr.setTime hd (.ok 281474976710656)).wf = false := by decide

theorem test_wf_pages :
    (Instr.pageOpen hd (.ok ⟨256, 0, 3600⟩)).wf = false ∧ (Instr.pageOpen hd (.ok ⟨1, 281474976710656, 3600⟩)).wf = false ∧
    (Instr.pageOpen hd (.ok ⟨1, 0, 4294967296⟩)).wf = false ∧ (Instr.pageAdd hd (.ok ⟨256, []⟩)).wf = false ∧
    (Instr.pageAdd hd (.ok ⟨1, [⟨256, 0, 0, 0, 0⟩]⟩)).wf = false ∧ (Instr.pageAdd hd (.ok ⟨1, [⟨1, 256, 0, 0, 0⟩]⟩)).wf = false ∧
    (Instr.pageAdd hd (.ok ⟨1, [⟨1, 0, 4294967296, 0, 0⟩]⟩)).wf = false ∧
    (Instr.pageAdd hd (.ok ⟨1, [⟨1, 0, 0, 2147483648, 0⟩]⟩)).wf = false ∧
    (Instr.pageAdd hd (.ok ⟨1, [⟨1, 0, 0, 0, 2147483648⟩]⟩)).wf = false ∧
    (Instr.pageList hd (.ok (some (256, 1)))).wf = false ∧ (Instr.pageList hd (.ok (some (1, 256)))).wf = false := by decide

theorem test_wf_tideQuery : (Instr.tideQuery hd (.ok ⟨16777216, none⟩)).wf = false ∧
    (Instr.tideQuery hd (.ok ⟨1, some 281474976710656⟩)).wf = false := by decide

theorem test_wf_stations :
    (Instr.stnPut hd (.ok ⟨16777216, ⟨0, 0, 0⟩, 1160, []⟩)).wf = false ∧
    (Instr.stnPut hd (.ok ⟨1, ⟨2147483648, 0, 0⟩, 1160, []⟩)).wf = false ∧
    (Instr.stnPut hd (.ok ⟨1, ⟨0, 0, 0⟩, 2147483648, []⟩)).wf = false ∧
    (Instr.stnPut hd (.ok ⟨1, ⟨0, 0, 0⟩, 1160, [⟨256, 1000, 0⟩]⟩)).wf = false ∧
    (Instr.stnPut hd (.ok ⟨1, ⟨0, 0, 0⟩, 1160, [⟨1, 2147483648, 0⟩]⟩)).wf = false ∧
    (Instr.stnDelete hd (.ok 16777216)).wf = false ∧ (Instr.stnGet hd (.ok 16777216)).wf = false ∧
    (Instr.stnList hd (.ok ⟨256, 0⟩)).wf = false ∧ (Instr.stnList hd (.ok ⟨0, 256⟩)).wf = false := by decide

/-- An OCC_OPEN that carries no policy item: context 9 on H0 at station 70. -/
def opening : OccOpenParams where
  tag := 9
  head := 0
  station := 70
  entry := .settling
  items :=
    { target := none, minimum := none, settle := none, runLimit := none, tiltLimit := none, rateLimit := none, gate := none,
      tideRequired := none, resume := none, resettle := none }
  group := none
  wake := 0#8
  hold := 0#8
  inline := some (⟨45000000, 7000000, 3000⟩, none)

theorem test_wf_occOpen :
    (Instr.occOpen hd (.ok { opening with tag := 65536 })).wf = false ∧
    (Instr.occOpen hd (.ok { opening with head := 256 })).wf = false ∧
    (Instr.occOpen hd (.ok { opening with station := 16777216 })).wf = false ∧
    (Instr.occOpen hd (.ok { opening with items := { opening.items with target := some 65536 } })).wf = false ∧
    (Instr.occOpen hd (.ok { opening with items := { opening.items with gate := some 2147483648 } })).wf = false ∧
    (Instr.occOpen hd (.ok { opening with inline := some (⟨0, 2147483648, 0⟩, none) })).wf = false ∧
    (Instr.occOpen hd (.ok { opening with inline := some (⟨0, 0, 0⟩, some 2147483648) })).wf = false := by decide

theorem test_wf_tags :
    (Instr.occHold hd (.ok 65536)).wf = false ∧ (Instr.occRelease hd (.ok 65536)).wf = false ∧
    (Instr.occClose hd (.ok 65536)).wf = false ∧ (Instr.occAbort hd (.ok 65536)).wf = false ∧
    (Instr.occPark hd (.ok 65536)).wf = false ∧ (Instr.occUnpark hd (.ok 65536)).wf = false ∧
    (Instr.occQuery hd (.ok (some 65536))).wf = false ∧ (Instr.occSwap hd (.ok ⟨65536, 1⟩)).wf = false ∧
    (Instr.occSwap hd (.ok ⟨1, 65536⟩)).wf = false ∧ (Instr.occClone hd (.ok ⟨65536, 1, 0⟩)).wf = false ∧
    (Instr.occClone hd (.ok ⟨1, 65536, 0⟩)).wf = false ∧ (Instr.occClone hd (.ok ⟨1, 2, 256⟩)).wf = false := by decide

theorem test_wf_occDefaults :
    (Instr.occDefaults hd (.ok { Config.factoryPolicy with target := 65536 })).wf = false ∧
    (Instr.occDefaults hd (.ok { Config.factoryPolicy with tiltLimit := 2147483648 })).wf = false := by decide

theorem test_wf_dumpStart :
    (Instr.dumpStart hd (.ok ⟨256, 0, 1, 1, false⟩)).wf = false ∧
    (Instr.dumpStart hd (.ok ⟨0, 4294967296, 1, 1, false⟩)).wf = false ∧
    (Instr.dumpStart hd (.ok ⟨0, 0, 65536, 1, false⟩)).wf = false ∧
    (Instr.dumpStart hd (.ok ⟨0, 0, 1, 256, false⟩)).wf = false := by decide

theorem test_wf_accepts : (Instr.occOpen hd (.ok opening)).wf = true ∧ (Instr.stnAge hd (.ok ())).wf = true ∧
    (Instr.unknownKindCommand hd 255#8).wf = true ∧ Instr.spanStart.wf = true := by decide

/-! ## Decoding -/

/-- The check value of the CRC-16 of R178: the nine digits give 29B1h. -/
theorem test_crc : crc16 [0x31#8, 0x32#8, 0x33#8, 0x34#8, 0x35#8, 0x36#8, 0x37#8, 0x38#8, 0x39#8] = 0x29B1#16 := by
  decide +kernel

/-- A frame of ARB_SET to FIXED with limit 3, of sender 0, sequence 7, and one with its CRC spoilt. -/
theorem test_decode_arbSet :
    decodeSurveyFrame ([0xA5#8, 2#8, 0x12#8, 0#8, 7#8, 1#8, 3#8] ++
      crcBytes (crc16 [2#8, 0x12#8, 0#8, 7#8, 1#8, 3#8])) =
      some (.arbSet hd (.ok ⟨.fixed, 3⟩)) ∧
    decodeSurveyFrame ([0xA5#8, 2#8, 0x12#8, 0#8, 7#8, 1#8, 3#8] ++
      crcBytes (~~~crc16 [2#8, 0x12#8, 0#8, 7#8, 1#8, 3#8])) = none := by decide +kernel

/-- A mode outside the list makes the body malformed (R171, ground 4), and so does a byte too many. -/
theorem test_decode_malformed :
    decodeKind .arbSet hd [2#8, 3#8] = .arbSet hd .malformed ∧ decodeKind .arbSet hd [1#8, 3#8, 0#8] = .arbSet hd .malformed ∧
    decodeKind .arbSet hd [1#8] = .arbSet hd .malformed ∧ decodeFrame 255#8 hd [] = .unknownKindCommand hd 255#8 := by
  decide +kernel

/-- Signed fields are two's complement, least significant byte first. -/
theorem test_decode_integers : leInt [0xFF#8, 0xFF#8, 0xFF#8] = -1 ∧ leInt [0#8, 0#8, 0x80#8] = -8388608 ∧
    leNat [0x10#8, 0x27#8] = 10000 := by decide

/-- No word of the table spells a command (log 20). -/
theorem test_decodeTableWord : decodeTableWord 8 0 = none ∧ State.reset.withFetchWord 8 0 = State.reset := by
  exact ⟨rfl, rfl⟩

/-! ## The commands at the bounds of their operands -/

theorem test_arbSet : ([0, 1, 15, 16].map fun l => answers (.arbSet hd (.ok ⟨.fixed, l⟩)) base) =
    [[some .badValue], [some .done], [some .done], [some .badValue]] := by decide +kernel

theorem test_faultClear : ([3, 4].map fun n => answers (.faultClear hd (.ok ⟨n, 1#5⟩)) base) =
    [[some .done], [some .badValue]] := by decide +kernel

theorem test_senderSet : ([0, 1, 3, 4].map fun n => answers (.senderSet hd (.ok ⟨n, some 1#7⟩)) base) =
    [[some .badValue], [some .done], [some .done], [some .badValue]] := by decide +kernel

theorem test_headSetup : ([(0, 999, 1), (3, 0, 60), (4, 0, 1), (0, 1000, 1), (0, 0, 0), (0, 0, 61)].map fun x =>
      answers (.headSetup hd (.ok ⟨x.1, true, x.2.1, x.2.2, 0#5, 0#5⟩)) base) =
    [[some .done], [some .done], [some .badValue], [some .badValue], [some .badValue], [some .badValue]] := by decide +kernel

theorem test_setPlan : ([0, 3, 4].map fun n => answers (.setPlan hd (.ok n)) base) =
    [[some .done], [some .done], [some .badValue]] := by decide +kernel

theorem test_evtSetup :
    ([[], [⟨7, .on, true, false⟩], [⟨3, .low, true, true⟩], [⟨8, .off, true, true⟩], [⟨3, .on, true, true⟩],
        [⟨4, .high, true, true⟩], [⟨0, .off, true, true⟩, ⟨0, .off, true, true⟩],
        List.replicate 9 ⟨0, .off, true, true⟩].map fun l => answers (.evtSetup hd (.ok l)) base) =
    [[some .done], [some .done], [some .done], [some .badValue], [some .badValue], [some .badValue], [some .badValue],
      [some .badValue]] := by decide +kernel

theorem test_evtClear : (after (.evtClear hd (.ok 2#8))
      { base with
        settings := { base.settings with sources := base.settings.sources.set 1 ⟨.rising, true, true⟩ }
        events := { base.events with pending := 2#8 } }).events.pending = 0#8 := by decide +kernel

theorem test_groupSet : ([(1, 1), (2, 1), (4, 600), (5, 1), (2, 0), (2, 601)].map fun x =>
      answers (.groupSet hd (.ok ⟨1, some x⟩)) base) =
    [[some .badValue], [some .done], [some .done], [some .badValue], [some .badValue], [some .badValue]] := by decide +kernel

theorem test_queueMarks : ([(8, 4), (46, 42), (7, 4), (47, 4), (8, 3), (8, 5)].map fun x =>
      answers (.queueMarks hd (.ok (some x))) base) =
    [[some .done], [some .done], [some .badValue], [some .badValue], [some .badValue], [some .badValue]] := by decide +kernel

theorem test_streamSelect : ([(3, 1#4), (4, 1#4), (0, 2#4)].map fun x =>
      answers (.streamSelect hd (.ok ⟨x.1, true, 15#4, 15#4, 1#4, x.2⟩)) base) =
    [[some .done], [some .badValue], [some .badValue]] := by decide +kernel

theorem test_streamBatch : ([(1, 100), (16, 10000), (0, 100), (17, 100), (1, 99), (1, 10001)].map fun x =>
      answers (.streamBatch hd (.ok (some x))) base) =
    [[some .done], [some .done], [some .badValue], [some .badValue], [some .badValue], [some .badValue]] := by decide +kernel

theorem test_calStage :
    ([⟨4, .tilt ⟨0, 0, 0, 0, 0⟩⟩, ⟨3, .tilt ⟨0, 0, 0, 0, 500⟩⟩, ⟨3, .tilt ⟨0, 0, 0, 0, 501⟩⟩,
        ⟨0, .temperature ⟨0, 1000, 85000, 0, 3600⟩⟩, ⟨0, .temperature ⟨0, 1000, 85001, 0, 3600⟩⟩,
        ⟨0, .table ⟨2, [⟨5, 0, 1⟩], some 2, some 6⟩⟩, ⟨0, .table ⟨3, [⟨5, 0, 1⟩], none, none⟩⟩,
        ⟨0, .table ⟨2, [⟨5, 0, 1⟩], some 3, none⟩⟩, ⟨0, .table ⟨1, [], some 2, none⟩⟩,
        ⟨0, .table ⟨1, [⟨5, 0, 0⟩], none, none⟩⟩].map fun p => answers (.calStage hd (.ok p)) base) =
    [[some .badValue], [some .done], [some .badValue], [some .done], [some .badValue], [some .done], [some .badValue],
      [some .badValue], [some .badValue], [some .badValue]] := by decide +kernel

/-- A staged copy of the factory record on H0. -/
def staged : State := { base with cal := { base.cal with staged := base.cal.staged.set 0 (some Config.factoryRecord) } }

theorem test_calCommit : ([0, 1, 4].map fun n => answers (.calCommit hd (.ok n)) staged) =
      [[some .done], [some .notFound], [some .badValue]] ∧
    (after (.calCommit hd (.ok 0)) staged).settings.cal[0].version = 2 := by decide +kernel

theorem test_calDiscard : ([3, 4].map fun n => answers (.calDiscard hd (.ok n)) staged) = [[some .done], [some .badValue]] := by
  decide +kernel

theorem test_calRead : ([⟨0, true, .table 1⟩, ⟨0, true, .table 32⟩, ⟨0, true, .table 33⟩, ⟨0, true, .table 0⟩, ⟨1, true, .tilt⟩,
        ⟨1, false, .temperature⟩, ⟨4, false, .tilt⟩].map fun p => answers (.calRead hd (.ok p)) staged) =
    [[some .done], [some .done], [some .badValue], [some .badValue], [some .notFound], [some .done], [some .badValue]] := by
  decide +kernel

theorem test_setTime : ([281474976710655, 281474976710656].map fun t => (answers (.setTime hd (.ok t)) base).head?) =
    [some (some .done), some (some .badValue)] := by decide +kernel

theorem test_stnPut :
    ([⟨1, ⟨90000000, -180000000, -5000⟩, 1000, []⟩, ⟨16777215, ⟨0, 0, 90000⟩, 1300, [⟨255, 500, -300000⟩]⟩,
        ⟨0, ⟨0, 0, 0⟩, 1160, []⟩, ⟨16777216, ⟨0, 0, 0⟩, 1160, []⟩, ⟨1, ⟨90000001, 0, 0⟩, 1160, []⟩, ⟨1, ⟨0, 0, -5001⟩, 1160, []⟩,
        ⟨1, ⟨0, 0, 0⟩, 999, []⟩, ⟨1, ⟨0, 0, 0⟩, 1160, [⟨0, 1000, 0⟩]⟩,
        ⟨1, ⟨0, 0, 0⟩, 1160, [⟨1, 1000, 0⟩, ⟨1, 900, 0⟩]⟩].map fun p => answers (.stnPut hd (.ok p)) base) =
    [[some .done], [some .done], [some .badValue], [some .badValue], [some .badValue], [some .badValue], [some .badValue],
      [some .badValue], [some .badValue]] := by decide +kernel

theorem test_stations : ([0, 1, 16777215, 16777216].map fun n => (answers (.stnGet hd (.ok n)) base ++ answers (.stnDelete hd (.ok n)) base)) =
    [[some .badValue, some .badValue], [some .notFound, some .notFound], [some .notFound, some .notFound],
      [some .badValue, some .badValue]] := by decide +kernel

theorem test_stnList : ([(0, 0), (63, 64), (64, 0), (0, 65)].map fun x => answers (.stnList hd (.ok ⟨x.1, x.2⟩)) base) =
    [[some .done], [some .done], [some .badValue], [some .badValue]] := by decide +kernel

theorem test_tideQuery : ([(0, none), (16777216, none), (1, some 281474976710656), (1, none)].map fun x =>
      answers (.tideQuery hd (.ok ⟨x.1, x.2⟩)) base) =
    [[some .badValue], [some .badValue], [some .badValue], [some .notFound]] := by decide +kernel

theorem test_tags : ([0, 65535].map fun t => answers (.occHold hd (.ok t)) base ++ answers (.occRelease hd (.ok t)) base ++
      answers (.occClose hd (.ok t)) base ++ answers (.occAbort hd (.ok t)) base ++ answers (.occPark hd (.ok t)) base ++
      answers (.occUnpark hd (.ok t)) base ++ answers (.occQuery hd (.ok (some t))) base) =
    [List.replicate 7 (some .badValue), List.replicate 7 (some .notFound)] := by decide +kernel

theorem test_swapAndClone : ([(0, 1), (1, 0), (1, 1), (1, 2)].map fun x => answers (.occSwap hd (.ok ⟨x.1, x.2⟩)) base) =
      [[some .badValue], [some .badValue], [some .badValue], [some .notFound]] ∧
    ([(0, 2, 0), (1, 0, 0), (1, 2, 4), (1, 2, 3)].map fun x => answers (.occClone hd (.ok ⟨x.1, x.2.1, x.2.2⟩)) base) =
      [[some .badValue], [some .badValue], [some .badValue], [some .notFound]] := by decide +kernel

theorem test_occDefaults : ([10, 3600, 9, 3601].map fun n =>
      answers (.occDefaults hd (.ok { Config.factoryPolicy with target := n })) base) =
    [[some .done], [some .done], [some .badValue], [some .badValue]] := by decide +kernel

theorem test_dumps : ([(0, 1, 1), (4, 1, 1), (0, 0, 1), (0, 8193, 1), (0, 1, 9)].map fun x =>
      answers (.dumpStart hd (.ok ⟨x.1, 0, x.2.1, x.2.2, false⟩)) base) =
      [[some .notFound], [some .badValue], [some .badValue], [some .badValue], [some .badValue]] ∧
    answers (.dumpStop hd (.ok ())) base = [some .notFound] := by decide +kernel

theorem test_link : answers (.unknownKindCommand hd 255#8) base = [some .unknownKind] ∧
    answers (.status hd (.ok true)) State.reset = [some .done] ∧ answers (.save hd (.ok ())) State.reset = [some .notReady] ∧
    answers (.save hd (.ok ())) base = [some .accepted] ∧ answers (.save { hd with sender := 1 } (.ok ())) base = [some .denied] ∧
    answers (.save hd .malformed) base = [some .badValue] ∧
    (after (.restart hd (.ok ())) base).sys.restartPending = true := by decide +kernel

theorem test_pageOpen :
    ([⟨1, 0, 3600⟩, ⟨255, 281474717510655, 259200⟩, ⟨0, 0, 3600⟩, ⟨256, 0, 3600⟩, ⟨1, 0, 3599⟩, ⟨1, 0, 259201⟩,
        ⟨1, 281474717510656, 259200⟩].map fun p => answers (.pageOpen hd (.ok p)) base) =
    [[some .done], [some .done], [some .badValue], [some .badValue], [some .badValue], [some .badValue], [some .badValue]] := by
  decide +kernel
/-! ## Witnesses: the hypotheses of the statements, on concrete states -/

/-- A context of H0 at station 70, tag 9, in a state. -/
def ctx (st : OccState) : Context where
  tag := 9
  head := 0
  station := 70
  state := st
  policy := Config.factoryPolicy
  group := none
  wake := 0xFF#8
  hold := 0xFF#8
  version := 1
  acc := emptyAccumulators
  flags := { unjoined := false, stale := false, faultHeld := false, tidePartial := false }

/-- A station record of number 70, with one reference. -/
def rec70 : StationRecord where
  number := 70
  origin := .stored
  pos := ⟨45000000, 7000000, 3000⟩
  delta := 1160
  adjust := []
  refs := 1
  current := true
  previous := false

/-- The station record placed in the base state. -/
def withStation (r : StationRecord) (s : State) : State := { s with table := placeRecord r s.table }

/-- A context active on H0, its station in the table. -/
def occupied (c : Context) : State := setActive 0 (some c) (withStation rec70 base)

/-- A context in a store slot. -/
def parkedAt (k : StoreSlotId) (c : Context) : State := setStored k (some c) (withStation rec70 base)

/-- A page of one constituent, from 0 to 3,600,000 ms. -/
def page1 : Page := { number := 1, start := 0, length := 3600, terms := [⟨1, 2, 1000, 0, 289841⟩] }

/-- A page in slot 1. -/
def paged (x : PageSlot) (tide : TideState) : State :=
  { base with pages := { slots := Vector.set base.pages.slots 1 x, tide := tide } }

/-- A sample of H0. -/
def sample0 : Sample where
  head := 0
  counter := 5#8
  tick := 100
  time := 1000400
  raw := 1000
  tiltX := 10
  tiltY := -10
  temp := 20000
  gap := none
  backlog := false
  restart := false
  headStatus := false
  timeUnset := false
  firstOfRun := true

/-- A correction of that sample with no context, and one bound to the context of tag 9. -/
def correction (b : Binding) : Correction where
  sample := sample0
  record := Config.factoryRecord
  version := 1
  lag := none
  bound := b
  station := none
  page := none

/-- A record of H0 with a sequence number. -/
def record0 (q : Nat) : SampleRecord := { (correct (correction .none)).record with seq := q }

/-- A ring of three records, sequences 0 to 2, on H0. -/
def ringed : State :=
  { base with archive := { base.archive with rings := base.archive.rings.set 0 ⟨[record0 0, record0 1, record0 2], 3⟩ } }

/-- A dump of that ring, from its first record. -/
def dump0 : Dump where
  head := 0
  first := 0
  last := 2
  length := 3
  cursor := some 0
  block := 2
  quiet := false
  sent := 0
  skipped := 0

theorem witness_StepRunsTheFrontCommand : { base with pending := [.spanStart] }.pending = .spanStart :: [] := rfl

theorem witness_IdlePart :
    (base.pending = [] ∧ dueAction base = none ∧ base.link.intake = [] ∧ base.archive.dump = none) ∧
    dueAction { State.reset with clock := { time := 281474976710655, state := .unset } } = none ∧
    dueAction { base with clock := { time := 9000000, state := .set } } = some (.silenceExpiry 0) := by decide +kernel

theorem witness_StepKeepsQueueLaw : QueueLaw (filled 48 base) ∧ ∃ t, step (filled 48 base) = .next t :=
  ⟨by unfold QueueLaw; decide, _, rfl⟩

theorem witness_StepKeepsPageLaw : PageLaw (paged (.ready page1) .available) ∧
    ∃ t, step (paged (.ready page1) .available) = .next t := by
  refine ⟨fun j k hjk p q hp hq => ?_, _, rfl⟩
  revert hjk hp hq
  match j, k with
  | 0, _ => intro _ hp; cases hp
  | 2, _ => intro _ hp; cases hp
  | 1, 0 => intro _ _ hq; cases hq
  | 1, 2 => intro _ _ hq; cases hq
  | 1, 1 => intro hjk; exact absurd rfl hjk

theorem witness_StepKeepsSlotLaw : SlotLaw (occupied (ctx .waiting)).occ ∧ ∃ t, step (occupied (ctx .waiting)) = .next t := by
  refine ⟨⟨fun n c h => ?_, fun k c h => ?_⟩, _, rfl⟩
  · revert h
    match n with
    | 0 => intro h; cases h; exact ⟨rfl, by decide⟩
    | 1 => intro h; cases h
    | 2 => intro h; cases h
    | 3 => intro h; cases h
  · simp [occupied, setActive, withStation, base, State.reset, State.starting] at h

theorem witness_StepKeepsCapacityLaw : CapacityLaw base ∧ CapacityLaw State.reset ∧ ∃ t, step base = .next t :=
  ⟨by unfold CapacityLaw; decide +kernel, by unfold CapacityLaw; decide +kernel, _, rfl⟩

/-- A ring of three records, and the bounds of the wrap: the next sequence after 4,294,967,295 is 0. -/
theorem witness_RingLaw : RingLaw ringed ∧ seqAdd 4294967295 1 = 0 ∧ seqSub 0 1 = 4294967295 := by
  refine ⟨fun n => ?_, by decide, by decide⟩
  match n with
  | 0 =>
    refine ⟨by decide, fun k r h => ?_⟩
    match k with
    | 0 | 1 | 2 => cases h; decide +kernel
    | k + 3 => cases h
  | 1 | 2 | 3 => exact ⟨by decide, fun k r h => by cases h⟩

theorem witness_PageNumbersDistinct : PageNumbersDistinct (paged (.ready page1) .available) := by
  intro j k p q hp hq _
  revert hp hq
  match j, k with
  | 0, _ | 2, _ => intro hp; cases hp
  | 1, 0 | 1, 2 => intro _ hq; cases hq
  | 1, 1 => intros; rfl

theorem witness_StepKeepsTableLaw : TableLaw (occupied (ctx .waiting)).table ∧ ∃ t, step (occupied (ctx .waiting)) = .next t :=
  ⟨by unfold TableLaw BucketLaw; decide +kernel, _, rfl⟩

theorem witness_StepsNotDueChangeNothing : Quiet base ∧ (base.clock.time : Int) < 9000000 ∧ base.corr.inFlight = none ∧
    base.occ.waiting = [] ∧ base.out.transmitting = false ∧ base.archive.dump = none ∧ base.sys.saving = none ∧
    (paged (.ready { page1 with start := 1 }) .available).clock.time < 1 + 1000 * page1.length ∧
    (paged .empty .available).pages.tide ≠ .lapsed :=
  ⟨witness_Quiet, by decide +kernel⟩

theorem witness_LoadComplete : State.reset.sys.part = .starting ∧ State.reset.sys.restartPending = false ∧
    (filled 47 State.reset).out.queue.length < 48 ∧ ∀ n : Head, State.reset.ports[n].state = .off := by decide +kernel

/-- Settings in which EL0 is HIGH, EL1 LOW and masked, EL2 LOW, EL3 RISING. -/
def levelSettings : Settings :=
  { Config.factory with
    sources := (((Config.factory.sources.set 0 ⟨.high, false, true⟩).set 1 ⟨.low, true, true⟩).set 2 ⟨.low, false, true⟩).set 3
      ⟨.rising, false, true⟩ }

/-- The load of those settings, at low levels: the START notice and EL2's EVENT notice, EL1 pending, EL0 re-armed. -/
theorem witness_LoadCompleteEntersLevelModes :
    (State.reset.events.latch = none ∧ State.reset.events.pending = 0#8 ∧ (∀ n : Head, State.reset.occ.active[n] = none) ∧
      State.reset.out.queue.length + 5 ≤ 48 ∧ State.reset.out.queue.length + 5 < (after .loadComplete State.reset).settings.high) ∧
    (let t := after .loadComplete
        { State.reset with sys := { State.reset.sys with image := { items := levelSettings, check := imageCheck levelSettings } } };
      (t.out.queue, t.events.pending, t.events.rearm, t.events.latch)) =
      ([.notice 0 (.start .cold .loaded .unset), .notice 0 (.event 2 (some false) 0 0)], 2#8, 1#4, none) := by decide +kernel

/-- The image of a new part is unusable; the factory items under their check word are usable, and under its complement they are not. -/
theorem test_imageUsable : imageUsable State.reset.sys.image = false ∧
    imageUsable { items := Config.factory, check := imageCheck Config.factory } = true ∧
    imageUsable { items := Config.factory, check := ~~~imageCheck Config.factory } = false ∧
    (settingsBytes Config.factory).length = 358 := by decide +kernel

/-- A SAVE in flight. -/
def saving : State := { base with sys := { base.sys with saving := some base.settings } }

theorem witness_Save : Taken .save hd saving ∧ saving.sys.saving.isSome ∧ base.sys.saving = none ∧ Quiet saving ∧
    RoomFor 1 saving ∧ saving.sys.restartPending = false :=
  ⟨taken_of (by decide), by decide, by decide, quiet_of (by decide), room_of (by decide), by decide⟩

/-- The four pause conditions of a dump, and the sequences of a ring and of an empty one. -/
theorem witness_StatusReportsSequencesAndPause :
    ([{ filled 47 base with out := { (filled 47 base).out with congested := true } },
        { filled 46 base with out := { (filled 46 base).out with congested := true } }, occupied (ctx .waiting), base].map fun s =>
      pauseOf { s with archive := { s.archive with dump := some { dump0 with quiet := true } } }) =
      [.noFreeEntry, .congestion, .quiet, .none] ∧
    pauseOf { occupied (ctx .waiting) with archive := { base.archive with dump := some dump0 } } = .none ∧ pauseOf base = .none ∧
    ((headReport ringed 0).oldest, (headReport ringed 0).newest, (headReport ringed 1).oldest) = (some 0, some 2, none) := by
  decide +kernel

/-- A STATUS whose reply is the 36th message, the high mark: it reports congestion, which begins; a notice in its place does the same. -/
theorem witness_JoinAtTheHighMark :
    ((filled 35 base).link.intake = [] ∧ (filled 35 base).sys.restartPending = false ∧ Quiet (filled 35 base) ∧
      (filled 35 base).out.queue.length < 47 ∧ (filled 35 base).out.congested = false ∧
      (filled 35 base).settings.high ≤ (filled 35 base).out.queue.length + 1) ∧
    ((statusReport (filled 35 base)).congested, (statusReport (filled 35 base)).count,
      (after (.status hd (.ok true)) (filled 35 base)).out.congested) = (true, 36, true) ∧
    (offerNotice .pageLapsed (filled 35 base)).events.pending = 0x80#8 ∧
    (offerNotice .pageLapsed (filled 34 base)).events.pending = 0#8 ∧ (filled 34 base).out.queue.length + 1 < base.settings.high :=
  ⟨⟨by decide, by decide, quiet_of (by decide), by decide, by decide, by decide⟩, by decide +kernel⟩

/-- Two messages, the first on the line. -/
def sending (n : Nat) : State := { filled n base with out := { (filled n base).out with transmitting := true } }

theorem witness_RestartTakesEffect :
    { sending 1 with sys := { base.sys with restartPending := true } }.out.queue = [filler] ∧
    { sending 1 with sys := { base.sys with restartPending := true } }.out.transmitting = true := by decide

theorem witness_TransmissionComplete : (sending 2).out.transmitting = true ∧ (sending 2).out.queue = filler :: [filler] ∧
    Quiet (sending 2) ∧ (sending 2).occ.waiting = [] ∧ (sending 2).sys.restartPending = false ∧ hasEntry (sending 48) = false :=
  ⟨by decide, by decide, quiet_of (by decide), by decide, by decide, by decide⟩

theorem witness_CommandsAreRefusedInOrder : Attentive { base with sys := { base.sys with part := .starting } } ∧
    (Instr.arbSet hd .malformed).kind = some .arbSet ∧ commandForm (.arbSet hd .malformed) = some (hd, true) ∧
    permitted base.settings 1 .arbSet = false ∧ permitted base.settings 0 .arbSet = true :=
  ⟨witness_Attentive, by decide⟩

theorem witness_FrameThatCannotBeTakenWaits : (Instr.stnAge hd (.ok ())).isFrame = true ∧ Quiet (filled 48 base) ∧
    48 ≤ (filled 48 base).out.queue.length ∧ (filled 48 base).link.intake.length < 4 ∧
    4 ≤ { base with link := { base.link with intake := List.replicate 4 (.stnAge hd (.ok ())) } }.link.intake.length :=
  ⟨by decide, quiet_of (by decide), by decide, by decide, by decide⟩

/-- An OCC_QUERY without a tag, whole, and the same frame with a wrong last byte. -/
def surveyBytes1 (last : BitVec 8) : List Byte := [0xA5#8, 1#8, 0x46#8, 0#8, 7#8, 0#8, 0x6B#8, last]

theorem witness_SurveyFrame : base.link.rx = { buf := [], rescan := 0, junk := false } ∧
    (surveyBytes1 0#8).head? = some 0xA5#8 ∧ surveyFrameLength (surveyBytes1 0#8) = some (surveyBytes1 0#8).length ∧
    decodeSurveyFrame (surveyBytes1 0#8) = none ∧
    decodeSurveyFrame (surveyBytes1 0xCF#8) = some (.occQuery hd (.ok none)) ∧ 0xA5#8 ∉ (surveyBytes1 0#8).tail := by decide +kernel

/-- HEAD_SETUP: a head in use, a head that stays LIVE with its timer moved and one whose timer is not yet due at the bound. -/
theorem witness_HeadSetup : Taken .headSetup hd (occupied (ctx .waiting)) ∧ (occupied (ctx .waiting)).occ.active[(0 : Head)].isSome ∧
    base.occ.active[(0 : Head)] = none ∧ 0 < Config.share base.settings.plan 0 ∧ base.ports[(0 : Head)].state = .live 9000000 ∧
    (base.clock.time : Int) < 9000000 + 1000 * ((1 : Int) - base.settings.heads[(0 : Head)].silence) :=
  ⟨taken_of (by decide), by decide +kernel⟩

theorem witness_SetPlan : (Taken .setPlan hd (occupied (ctx .waiting)) ∧ liveContexts (occupied (ctx .waiting)).occ ≠ []) ∧
    Taken .setPlan hd base ∧ liveContexts base.occ = [] ∧ base.archive.dump = none ∧ base.corr.inFlight = none ∧
    (∀ n : Head, base.partitions[n] = []) ∧
    answers (.setPlan hd (.ok 1)) { base with corr := { base.corr with inFlight := some (correction .none) } } = [some .inUse] ∧
    answers (.setPlan hd (.ok 1)) { ringed with archive := { ringed.archive with dump := some dump0 } } = [some .inUse] ∧
    answers (.setPlan hd (.ok 1)) (setPartition 3 [sample0] base) = [some .inUse] :=
  ⟨⟨taken_of (by decide), by decide⟩, witness_Taken .setPlan, by decide +kernel⟩

/-- EVT_SETUP: external lines entering a level mode, active and not, an unchanged mode, an internal source. -/
theorem witness_EvtSetup :
    ((after (.evtSetup hd (.ok [⟨1, .low, true, true⟩])) base).events.pending = 2#8 ∧
      (after (.evtSetup hd (.ok [⟨1, .high, true, true⟩])) base).events.rearm = 2#4) ∧
    (after (.evtSetup hd (.ok [⟨1, .off, true, true⟩])) base).events = base.events ∧
    (after (.evtSetup hd (.ok [⟨4, .off, true, true⟩])) base).events = base.events := by decide +kernel

/-- EVT_SETUP with two unmasked entries on low lines: EL1 raises a request, is latched and dispatched at once; EL2 is re-armed. -/
theorem witness_EvtSetupAppliesEveryEntry :
    ([⟨1, .low, false, true⟩, ⟨2, .high, false, true⟩] : List EvtEntry).length ≤ 8 ∧
    (([⟨1, .low, false, true⟩, ⟨2, .high, false, true⟩] : List EvtEntry).map fun e => e.source).Nodup ∧
    (let t := after (.evtSetup hd (.ok [⟨1, .low, false, true⟩, ⟨2, .high, false, true⟩])) base;
      (t.out.queue.map statusOf, t.events.pending, t.events.rearm, t.events.latch)) =
      ([some .done, none], 0#8, 4#4, none) := by decide +kernel

/-- The context of tag 9 waits in group 0. -/
def gatheringGroup : State :=
  setGroup 0 { arrivals := [9], timer := some 1060500, run := 65535 } (occupied { ctx .waiting with group := some 0 })

theorem witness_GroupSet : Taken .groupSet hd gatheringGroup ∧ gatheringGroup.groups[(0 : Group)].arrivals ≠ [] ∧
    base.groups[(0 : Group)].arrivals = [] :=
  ⟨taken_of (by decide), by decide, by decide⟩

theorem witness_QueueMarks :
    (Taken .queueMarks hd (filled 6 base) ∧ (filled 6 base).out.congested = false ∧ (filled 6 base).out.queue.length + 1 < 8) ∧
    (Taken .queueMarks hd (filled 7 base) ∧ (filled 7 base).out.queue.length + 1 = 8) ∧
    (Taken .queueMarks hd (filled 8 base) ∧ 8 ≤ (filled 8 base).out.queue.length) ∧
    (Taken .queueMarks hd { filled 5 base with out := { (filled 5 base).out with congested := true } } ∧
      4 < (filled 5 base).out.queue.length) ∧
    Taken .queueMarks hd { filled 4 base with out := { (filled 4 base).out with congested := true } } ∧
    (filled 4 base).out.queue.length ≤ 4 :=
  ⟨⟨taken_of (by decide), by decide⟩, ⟨taken_of (by decide), by decide⟩, ⟨taken_of (by decide), by decide⟩,
    ⟨taken_of (by decide), by decide⟩, taken_of (by decide), by decide⟩

/-- One record in the batch of H0, its flush timer due at 1,001,000 ms. -/
def batched : State := setBatch 0 { records := [record0 0], expiry := some 1001000 } base

theorem witness_StreamBatch : Taken .streamBatch hd batched ∧
    (∀ n : Head, batched.batches[n].records.length < 2) ∧ (batched.clock.time : Int) < 1001000 + ((501 : Int) - batched.settings.flush) ∧
    (1 ≤ batched.batches[(0 : Head)].records.length ∧ (∀ m : Head, m ≠ 0 → batched.batches[m].records = []) ∧
      batched.out.congested = false ∧ RoomFor 2 batched) :=
  ⟨taken_of (by decide), by decide +kernel, by decide +kernel, by decide +kernel, by decide +kernel, by decide, room_of (by decide)⟩

theorem witness_FlushExpiry :
    { batched with clock := { time := 1001000, state := .set } }.batches[(0 : Head)].expiry = some 1001000 ∧ Quiet batched ∧
    RoomFor 1 batched ∧ batched.out.congested = false ∧ batched.sys.restartPending = false ∧ hasEntry (filled 48 batched) = false :=
  ⟨by decide +kernel, quiet_of (by decide), room_of (by decide), by decide, by decide, by decide⟩

/-- CAL_COMMIT on H0 with a held and with a running context, and a staged record that breaks R26. -/
theorem witness_CalCommit :
    answers (.calCommit hd (.ok 0)) (setActive 0 (some (ctx (.held .command))) staged) = [some .done, none] ∧
    answers (.calCommit hd (.ok 0)) (setActive 0 (some (ctx (.running 0 none))) staged) = [some .inUse] ∧
    recordOk { Config.factoryRecord with upper := -8388607 } = false ∧ recordOk Config.factoryRecord = true ∧
    staged.cal.staged[(0 : Head)] = some Config.factoryRecord ∧ staged.occ.active[(0 : Head)] = none := by decide +kernel

theorem witness_SetTime : Taken .setTime hd (occupied (ctx .waiting)) ∧ gathering (ctx .waiting) = true ∧
    (occupied (ctx .waiting)).occ.active[(0 : Head)] = some (ctx .waiting) ∧ RoomFor 2 base ∧
    (∀ n : Head, base.occ.active[n] = none) :=
  ⟨taken_of (by decide), by decide, by decide, room_of (by decide), by decide +kernel⟩

/-- The clock at a time, in a state. -/
def clocked (t : Nat) (c : ClockState) : State := { base with clock := { time := t, state := c } }

/-- TIME_MARK at the bounds of the windows: remainders 0, 50, 51, 949, 950 and 999. -/
theorem witness_TimeMark :
    ([0, 50, 51, 949, 950, 999].map fun r => (after .timeMark (clocked (1000000 + r) .set)).clock) =
      [⟨1000000, .locked 1010000⟩, ⟨1000000, .locked 1010000⟩, ⟨1000051, .set⟩, ⟨1000949, .set⟩, ⟨1001000, .locked 1011000⟩,
        ⟨1001000, .locked 1011000⟩] ∧
    ([50, 51, 949, 950].map fun r => (after .timeMark (clocked (1000000 + r) (.locked 1000060))).clock.state) =
      [.locked 1010000, .set, .set, .locked 1011000] ∧
    (after .timeMark (clocked 1000000 .unset)).clock.state = .unset := by decide +kernel

theorem witness_LossExpiry : (clocked 1000000 (.locked 1000000)).clock.state = .locked 1000000 ∧
    Quiet (clocked 1000000 (.locked 1000000)) ∧ RoomFor 1 (clocked 1000000 (.locked 1000000)) ∧
    (clocked 1000000 (.locked 1000000)).sys.restartPending = false ∧
    (after .lossExpiry (clocked 1000000 (.locked 1000000))).clock.state = .set :=
  ⟨by decide, quiet_of (by decide), room_of (by decide), by decide, by decide +kernel⟩

/-- The READY page in slot 1 and another in slot 2, whose span begins where the first one's ends. -/
def twoPages (t : Nat) (tide : TideState) : State :=
  { base with
    clock := { time := t, state := .set }
    pages := { slots := #v[.empty, .ready page1, .ready { page1 with number := 2, start := 3600000 }], tide := tide } }

theorem witness_PageRetirement : (twoPages 3600000 .available).pages.slots[(1 : PageSlotId)] = .ready page1 ∧
    page1.start + 1000 * page1.length ≤ (twoPages 3600000 .available).clock.time ∧
    (after (.pageRetirement 1) (twoPages 3600000 .available)).pages.tide = .available ∧
    (after (.pageRetirement 1) (twoPages 3599999 .available)).pages.slots[(1 : PageSlotId)] = .ready page1 ∧
    (after (.pageRetirement 1) { paged (.ready page1) .available with clock := { time := 3600000, state := .set } }).pages.tide =
      .lapsed := by decide +kernel

/-- A clock step over the end of a page: it is retired, the tide lapses, and both sources pend. -/
theorem witness_PageStep :
    (let t := pageStep { paged (.ready page1) .available with clock := { time := 3600000, state := .set } };
      (t.pages.slots[(1 : PageSlotId)], t.pages.tide, t.events.pending, t.out.queue)) =
      (.empty, .lapsed, 0x30#8, [.notice 3600000 (.pageRetired 1 0 3600 1), .notice 3600000 .pageLapsed]) ∧
    (pageStep (twoPages 3600000 .available)).pages.tide = .available ∧
    (pageStep (twoPages 0 .lapsed)).pages.tide = .available ∧
    (pageStep { paged (.ready page1) .available with clock := { time := 3600000, state := .unset } }).pages.tide = .noTime ∧
    (paged (.ready page1) .available).clock.state ≠ .unset := by decide +kernel

theorem witness_SpanStart : (twoPages 0 .lapsed).pages.tide = .lapsed ∧
    (after .spanStart (twoPages 0 .lapsed)).pages.tide = .available ∧
    (after .spanStart (twoPages 3599999 .lapsed)).pages.tide = .available ∧ RoomFor 1 (twoPages 0 .lapsed) ∧
    Quiet (twoPages 0 .lapsed) :=
  ⟨by decide, by decide +kernel, by decide +kernel, room_of (by decide), quiet_of (by decide)⟩

/-- The pages that PAGE_COMMIT and PAGE_DROP meet: slot 1, its number nowhere else. -/
theorem witness_onlySlot (x : PageSlot) (tide : TideState) : ∀ (j : PageSlotId) (q : Page),
    slotPage (paged x tide).pages.slots[j] = some q → q.number = 1 → j = 1 := by
  intro j q hq _
  match j with
  | 0 => cases hq
  | 1 => rfl
  | 2 => cases hq

theorem witness_PageCommit :
    (Taken .pageCommit hd (paged (.filling page1) .lapsed) ∧ (paged (.filling page1) .lapsed).pages.slots[(1 : PageSlotId)] = .filling page1 ∧
      page1.terms ≠ [] ∧ page1.start ≤ (paged (.filling page1) .lapsed).clock.time ∧ RoomFor 2 (paged (.filling page1) .lapsed)) ∧
    answers (.pageCommit hd (.ok 1)) (paged (.filling page1) .lapsed) = [some .done, none] ∧
    answers (.pageCommit hd (.ok 1)) (paged (.filling { page1 with terms := [] }) .lapsed) = [some .badValue] ∧
    answers (.pageCommit hd (.ok 1)) (paged (.filling { page1 with start := 1000501 }) .lapsed) = [some .done] ∧
    answers (.pageCommit hd (.ok 1)) (paged (.ready page1) .available) = [some .wrongState] ∧
    answers (.pageCommit hd (.ok 3)) { twoPages 0 .available with
      pages := { slots := #v[.filling { page1 with number := 3, start := 3599999 }, .ready page1, .empty], tide := .available } } =
      [some .overlap] ∧
    answers (.pageCommit hd (.ok 3)) { twoPages 0 .available with
      pages := { slots := #v[.filling { page1 with number := 3, start := 3600000 }, .ready page1, .empty], tide := .available } } =
      [some .done] :=
  ⟨⟨taken_of (by decide), by decide, by decide, by decide, room_of (by decide)⟩, by decide +kernel⟩

theorem witness_PageCommitNeedsAPage : ([0, 2, 255, 256].map fun n =>
    answers (.pageCommit hd (.ok n)) (paged (.filling page1) .lapsed)) =
      [[some .badValue], [some .notFound], [some .notFound], [some .badValue]] := by decide +kernel

theorem witness_PageDrop :
    answers (.pageDrop hd (.ok 1)) (paged (.filling page1) .lapsed) = [some .done] ∧
    answers (.pageDrop hd (.ok 1)) (paged (.ready page1) .available) = [some .done, none] ∧
    answers (.pageDrop hd (.ok 2)) (twoPages 0 .available) = [some .done] ∧
    answers (.pageDrop hd (.ok 1)) { paged (.ready page1) .noTime with clock := { time := 0, state := .unset } } = [some .done] ∧
    ([0, 2, 255, 256].map fun n => answers (.pageDrop hd (.ok n)) (paged (.ready page1) .available)) =
      [[some .badValue], [some .notFound], [some .notFound], [some .badValue]] ∧
    answers (.pageDrop hd (.ok 1)) { paged (.ready { page1 with start := 1000501 }) .lapsed with pending := [] } = [some .done] := by
  decide +kernel

theorem witness_PageAddAndOpen :
    answers (.pageOpen hd (.ok ⟨1, 0, 3600⟩)) (paged (.filling page1) .lapsed) = [some .existing] ∧
    answers (.pageOpen hd (.ok ⟨3, 0, 3600⟩)) { base with pages := { slots := Vector.replicate 3 (.filling page1), tide := .lapsed } } = [some .full] ∧
    answers (.pageAdd hd (.ok ⟨1, List.replicate 8 ⟨255, 3, 200000, 3599999, 600000⟩⟩)) (paged (.filling page1) .lapsed) = [some .done] ∧
    answers (.pageAdd hd (.ok ⟨1, page1.terms⟩)) (paged (.filling { page1 with terms := List.replicate 24 ⟨1, 0, 0, 0, 0⟩ }) .lapsed) =
      [some .full] ∧
    answers (.pageAdd hd (.ok ⟨1, page1.terms⟩)) (paged (.filling { page1 with terms := List.replicate 23 ⟨1, 0, 0, 0, 0⟩ }) .lapsed) =
      [some .done] ∧
    answers (.pageAdd hd (.ok ⟨1, page1.terms⟩)) (paged (.ready page1) .available) = [some .wrongState] ∧
    answers (.pageAdd hd (.ok ⟨2, page1.terms⟩)) (paged (.ready page1) .available) = [some .notFound] ∧
    answers (.pageAdd hd (.ok ⟨1, []⟩)) (paged (.filling page1) .lapsed) = [some .badValue] ∧
    ([⟨0, 0, 0, 0, 0⟩, ⟨256, 0, 0, 0, 0⟩, ⟨1, 4, 0, 0, 0⟩, ⟨1, 0, 200001, 0, 0⟩, ⟨1, 0, 0, 3600000, 0⟩, ⟨1, 0, 0, -1, 0⟩,
        ⟨1, 0, 0, 0, 600001⟩].map fun c => answers (.pageAdd hd (.ok ⟨1, [c]⟩)) (paged (.filling page1) .lapsed)) =
      List.replicate 7 [some .badValue] := by decide +kernel

theorem witness_PageList : slotPage (paged (.ready page1) .available).pages.slots[(1 : PageSlotId)] = some page1 ∧
    ([(0, 1), (1, 1), (1, 24), (1, 25), (1, 0), (2, 1), (256, 1)].map fun x =>
      answers (.pageList hd (.ok (some x))) (paged (.ready page1) .available)) =
      [[some .badValue], [some .done], [some .done], [some .badValue], [some .badValue], [some .notFound], [some .badValue]] := by
  decide +kernel

/-- TIDE_QUERY at the ends of a span, and of a station at 45 degrees whose record is there. -/
theorem witness_TideQuery : findStation (withStation rec70 base).table 70 = some rec70 ∧
    ([none, some 0, some 3599999, some 3600000].map fun t =>
      answers (.tideQuery hd (.ok ⟨70, t⟩)) (withStation rec70 (paged (.ready page1) .available))) =
      [[some .done], [some .done], [some .done], [some .noTide]] := by decide +kernel

/-- The ranges of the statement on the tide, met by that station and page, and a term adjusted and one not. -/
theorem witness_TideCorrection :
    (deltaOk rec70.delta = true ∧ positionOk rec70.pos = true ∧ adjustOk [⟨1, 900, 300000⟩] = true ∧ page1.terms.all constituentOk = true ∧
      page1.terms.length ≤ 24 ∧ page1.length ≤ 259200 ∧ page1.start ≤ 0 ∧ 0 < page1.start + 1000 * page1.length ∧
      (∀ c ∈ page1.terms, ∀ e ∈ ([⟨1, 900, 300000⟩] : List AdjEntry), e.code = c.code → (900 : Int) = e.factor ∧ (300000 : Int) = e.lag) ∧
      ∀ c ∈ page1.terms, ¬ ∀ e ∈ ([⟨1, 900, 300000⟩] : List AdjEntry), e.code ≠ c.code) ∧
    ([1, -3, 5].map fun a => roundDiv a 2) = [1, -2, 3] ∧
    tideCorrection rec70 page1 0 = -6 ∧ tideCorrection { rec70 with adjust := [⟨1, 900, 300000⟩] } page1 0 = -5 := by decide +kernel

/-- Sums of cosines that vanish, and one step away: the cosine of 60 degrees is a half, that of 36 less that of 72 is a half, and three
that lie a third of a turn apart cancel. -/
theorem test_sumVanishes :
    ([[(2, 60 * phaseStep), (-1, 0)], [(2, 60 * phaseStep + 1), (-1, 0)], [(2, 36 * phaseStep), (-2, 72 * phaseStep), (-1, 0)],
        [(1, 7), (1, 120 * phaseStep + 7), (1, -120 * phaseStep + 7)], [(1, 7), (1, 120 * phaseStep + 7), (1, -120 * phaseStep + 8)],
        []] : List CosineSum).map sumVanishes = [true, false, true, true, false, true] := by decide +kernel

/-- Tide corrections exactly halfway, and one angle step to either side: at latitude 0, species 2, an amplitude of one step and a
phase of 60 or 120 degrees. -/
theorem test_tideHalves :
    (let at0 : StationRecord := { rec70 with pos := ⟨0, 0, 0⟩, delta := 1000, adjust := [] };
      [600000, 599999, 600001, 1200000, 1199999, 1200001].map fun a =>
        tideCorrection at0 { page1 with terms := [⟨1, 2, 100, a, 0⟩] } 0) = [-1, -1, 0, 1, 0, 1] := by decide +kernel

/-- STN_PUT of a present number, in place and elsewhere, free and referenced; of a new one; and in a full bucket. -/
theorem witness_StnPut :
    findStation (withStation rec70 base).table 70 = some rec70 ∧
    answers (.stnPut hd (.ok ⟨70, rec70.pos, 1300, []⟩)) (withStation rec70 base) = [some .done] ∧
    answers (.stnPut hd (.ok ⟨70, ⟨0, 0, 0⟩, 1300, []⟩)) (withStation rec70 base) = [some .locked] ∧
    answers (.stnPut hd (.ok ⟨70, ⟨0, 0, 0⟩, 1300, []⟩)) (withStation { rec70 with refs := 0 } base) = [some .done] ∧
    answers (.stnPut hd (.ok ⟨6, ⟨0, 0, 0⟩, 1300, []⟩)) (withStation rec70 base) = [some .done] ∧
    answers (.stnPut hd (.ok ⟨6, ⟨0, 0, 0⟩, 1300, []⟩))
      { withStation rec70 base with table := { (withStation rec70 base).table with free := 0 } } = [some .full] ∧
    answers (.stnPut hd (.ok ⟨7, ⟨0, 0, 0⟩, 1300, []⟩))
      { withStation rec70 base with table := { (withStation rec70 base).table with free := 0 } } = [some .done] := by decide +kernel

/-- Bucket 6 with two records, 70 in the primary place and 6 chained behind it. -/
def chained70 : State := withStation { rec70 with number := 6, refs := 0, origin := .learned, current := false } (withStation { rec70 with refs := 0 } base)

/-- A second record of a bucket takes the place after the first, which keeps its own. -/
theorem witness_StnPutPositions : stationPosition chained70.table 6 = 1 ∧ stationPosition chained70.table 70 = 0 ∧
    (findStation chained70.table 70).isSome := by decide +kernel

/-- Walks of the listing: from the start, from the second place of bucket 6, and from beyond its chain; and 13 records, of which the
last is the continuation point. -/
theorem witness_StnList :
    ([(0, 0), (6, 1), (6, 2), (7, 0)].map fun x => (listStations chained70.table x.1 x.2).summaries.map fun y => (y.number, y.bucket, y.position)) =
      [[(70, 6, 0), (6, 6, 1)], [(6, 6, 1)], [], []] ∧
    (listStations chained70.table 0 0).primaries = 1 ∧
    (let many := (List.range 13).foldl (fun s k => withStation { rec70 with number := k + 1 } s) base;
      ((listStations many.table 0 0).summaries.length, (listStations many.table 0 0).continuation)) = (12, some (13, 0)) := by
  decide +kernel

theorem witness_StnDeleteAndAge : (Taken .stnDelete hd chained70 ∧ TableLaw chained70.table) ∧
    answers (.stnDelete hd (.ok 70)) chained70 = [some .done] ∧
    (after (.stnDelete hd (.ok 70)) chained70).table.free = 64 ∧ chained70.table.free = 63 ∧
    answers (.stnDelete hd (.ok 70)) (withStation rec70 base) = [some .locked] ∧
    (allRecords (after (.stnAge hd (.ok ())) chained70).table).length = 1 ∧
    (bucketRecords chained70.table.buckets[bucketIndex 6])[1]? =
      some { rec70 with number := 6, refs := 0, origin := .learned, current := false } ∧
    answers (.stnGet hd (.ok 6)) chained70 = [some .done] :=
  ⟨⟨taken_of (by decide +kernel), by unfold TableLaw BucketLaw; decide +kernel⟩, by decide +kernel⟩

/-- Two members of group 0: the context of tag 9 on the arrival list, and one of tag 4 that is settling on H1. -/
def pairing : State := setActive 1 (some { ctx (.settling 1000500) with tag := 4, head := 1, group := some 0 }) gatheringGroup

theorem witness_ActiveTagsDistinct : ActiveTagsDistinct pairing.occ := by
  intro n m c d hc hd heq
  revert hc hd heq
  match n, m with
  | 0, 0 | 1, 1 | 2, 2 | 3, 3 => intros; rfl
  | 0, 1 => intro hc hd heq; cases hc; cases hd; exact absurd heq (by decide)
  | 1, 0 => intro hc hd heq; cases hc; cases hd; exact absurd heq (by decide)
  | 0, 2 | 0, 3 | 1, 2 | 1, 3 => intro _ hd; cases hd
  | 2, 0 | 2, 1 | 2, 3 | 3, 0 | 3, 1 | 3, 2 => intro hc; cases hc

/-- The laws of the occupations, all of them on one state: the context of tag 9 on H0 waits in group 0. -/
theorem witness_OccupationLaws : SlotLaw gatheringGroup.occ ∧ LiveTagsDistinct gatheringGroup.occ ∧ ArrivalLaw gatheringGroup ∧
    TargetLaw gatheringGroup.occ ∧ TableLaw gatheringGroup.table ∧ RefsLaw gatheringGroup ∧
    (∃ t, step gatheringGroup = .next t) ∧ LiveTagsDistinct pairing.occ := by
  have only : ∀ (n : Head) (c : Context), gatheringGroup.occ.active[n] = some c → n = 0 ∧ c = { ctx .waiting with group := some 0 } := by
    intro n c h
    match n with
    | 0 => cases h; exact ⟨rfl, rfl⟩
    | 1 | 2 | 3 => cases h
  have live : liveContexts gatheringGroup.occ = [(.active 0, { ctx .waiting with group := some 0 })] := by decide +kernel
  refine ⟨⟨fun n c h => ?_, fun k c h => ?_⟩, ?_, ⟨fun g => ?_, fun n c h _ => ?_, fun h => ?_⟩, fun x hx => ?_, ?_, ?_, ⟨_, rfl⟩, ?_⟩
  · obtain ⟨rfl, rfl⟩ := only n c h; exact ⟨rfl, by decide⟩
  · simp [gatheringGroup, setGroup, occupied, setActive, withStation, base, State.reset, State.starting] at h
  · unfold LiveTagsDistinct; rw [live]; decide
  · match g with
    | 0 =>
      refine ⟨fun tag => Iff.intro (fun h => ⟨0, _, rfl, (List.mem_singleton.mp h).symm, rfl, rfl⟩) fun h => ?_, by decide, by decide,
        by decide, by decide⟩
      obtain ⟨n, c, h, ht, _⟩ := h
      obtain ⟨rfl, rfl⟩ := only n c h; exact List.mem_singleton.mpr ht.symm
    | 1 =>
      refine ⟨fun tag => Iff.intro (fun h => by cases h) fun h => ?_, by decide, by decide, by decide, by decide⟩
      obtain ⟨n, c, h, _, hg, _⟩ := h
      obtain ⟨rfl, rfl⟩ := only n c h; exact absurd hg (by decide)
  · obtain ⟨rfl, rfl⟩ := only n c h; rfl
  · exact absurd h (by decide)
  · rw [live] at hx
    obtain rfl := List.mem_singleton.mp hx
    exact ⟨by decide, by decide, fun _ => by decide⟩
  · unfold TableLaw BucketLaw; decide +kernel
  · unfold RefsLaw; decide +kernel
  · unfold LiveTagsDistinct; decide +kernel

theorem witness_ArrivalAndGathering :
    (pairing.occ.active[(1 : Head)] = some { ctx (.settling 1000500) with tag := 4, head := 1, group := some 0 } ∧
      pairing.settings.groups[(0 : Group)].target ≤ pairing.groups[(0 : Group)].arrivals.length + 1 ∧
      (pairing.groups[(0 : Group)].arrivals ++ [4]).Nodup ∧ RoomFor 1 pairing ∧ Quiet pairing ∧ pairing.sys.restartPending = false) ∧
    (after (.settleExpiry 1) pairing).groups[(0 : Group)] = { arrivals := [], timer := none, run := 1 } ∧
    (after (.gatheringExpiry 0) { pairing with clock := { time := 1060500, state := .set } }).groups[(0 : Group)] =
      { arrivals := [], timer := none, run := 65535 } ∧
    (after (.gatheringExpiry 0) { pairing with clock := { time := 1060499, state := .set } }).groups[(0 : Group)].timer = some 1060500 ∧
    0 + 1 < pairing.settings.groups[(1 : Group)].target :=
  ⟨⟨by decide, by decide, by decide, room_of (by decide), quiet_of (by decide), by decide⟩, by decide +kernel⟩

theorem witness_SettleExpiry : (occupied (ctx (.settling 1000500))).occ.active[(0 : Head)] = some (ctx (.settling 1000500)) ∧
    Quiet (occupied (ctx (.settling 1000500))) ∧
    ((after (.settleExpiry 0) (occupied (ctx (.settling 1000500)))).occ.active[(0 : Head)].map fun c => c.state) =
      some (.running 1000500 none) ∧
    ((after (.settleExpiry 0) (occupied (ctx (.settling 1000501)))).occ.active[(0 : Head)].map fun c => c.state) =
      some (.settling 1000501) :=
  ⟨by decide, quiet_of (by decide), by decide +kernel⟩

theorem witness_LeavingTheArrivalList : (ctx .waiting).tag ∈ gatheringGroup.groups[(0 : Group)].arrivals ∧
    4 ∉ gatheringGroup.groups[(0 : Group)].arrivals ∧
    (leaveList { ctx .waiting with group := some 0 } gatheringGroup).groups[(0 : Group)].timer = none := by decide +kernel

/-- OCC_OPEN: the grounds one after the other, and the ways it passes. -/
theorem witness_OccOpen :
    answers (.occOpen hd (.ok opening)) base = [some .done] ∧
    answers (.occOpen hd (.ok { opening with entry := .held, inline := none })) (withStation rec70 base) = [some .done] ∧
    answers (.occOpen hd (.ok { opening with items := { opening.items with settle := some 0 } })) base = [some .done] ∧
    answers (.occOpen hd (.ok { opening with head := 4 })) base = [some .badValue] ∧
    answers (.occOpen hd (.ok { opening with tag := 0 })) base = [some .badValue] ∧
    answers (.occOpen hd (.ok { opening with items := { opening.items with minimum := some 61 } })) base = [some .badValue] ∧
    answers (.occOpen hd (.ok { opening with inline := some (⟨0, 0, 0⟩, some 999) })) base = [some .badValue] ∧
    answers (.occOpen hd (.ok opening)) (occupied (ctx .waiting)) = [some .existing] ∧
    answers (.occOpen hd (.ok opening)) (setPort 0 State.offPort base) = [some .wrongState] ∧
    answers (.occOpen hd (.ok { opening with tag := 8 })) (occupied (ctx .waiting)) = [some .inUse] ∧
    answers (.occOpen hd (.ok { opening with inline := none })) base = [some .notFound] ∧
    answers (.occOpen hd (.ok { opening with inline := some (⟨0, 0, 0⟩, none) })) (withStation rec70 base) = [some .mismatch] ∧
    answers (.occOpen hd (.ok { opening with station := 6 }))
      { withStation rec70 base with table := { (withStation rec70 base).table with free := 0 } } = [some .full] := by decide +kernel

theorem witness_OccOpenCreates : Taken .occOpen hd base ∧ TableLaw base.table ∧ groundOccOpen opening base = none :=
  ⟨witness_Taken .occOpen, by unfold TableLaw BucketLaw; decide +kernel, by decide +kernel⟩

theorem witness_OccHoldAndRelease :
    findTag (occupied (ctx (.running 0 none))).occ 9 = some (.active 0, ctx (.running 0 none)) ∧
    answers (.occHold hd (.ok 9)) (occupied (ctx (.running 0 none))) = [some .done] ∧
    answers (.occHold hd (.ok 9)) (occupied (ctx (.held .event))) = [some .wrongState] ∧
    answers (.occRelease hd (.ok 9)) (occupied (ctx (.held .event))) = [some .done] ∧
    answers (.occRelease hd (.ok 9)) (occupied (ctx (.held .stale))) = [some .stale] ∧
    answers (.occRelease hd (.ok 9)) (occupied (ctx .waiting)) = [some .wrongState] := by decide +kernel

theorem witness_OccClose :
    answers (.occClose hd (.ok 9)) (occupied (ctx (.running 0 none))) = [some .done, none] ∧
    answers (.occClose hd (.ok 9)) (occupied (ctx (.complete .target))) = [some .wrongState] ∧
    (after (.occClose hd (.ok 9)) { filled 47 (occupied (ctx .waiting)) with
      out := { (filled 47 base).out with congested := true } }).occ.waiting = [0] ∧
    answers (.occClose hd (.ok 9)) (parkedAt 3 (ctx .parked)) = [some .done, none] ∧
    findTag (parkedAt 3 (ctx .parked)).occ 9 = some (.stored 3, ctx .parked) ∧
    (after (.occClose hd (.ok 9)) { filled 47 (parkedAt 3 (ctx .parked)) with
      out := { (filled 47 base).out with congested := true } }).occ.store[(3 : StoreSlotId)] = some (ctx .parked) := by decide +kernel

theorem witness_OccAbort : answers (.occAbort hd (.ok 9)) (occupied (ctx (.complete .target))) = [some .done, none] ∧
    answers (.occAbort hd (.ok 9)) (parkedAt 11 (ctx .parked)) = [some .done, none] ∧
    (after (.occAbort hd (.ok 9)) (parkedAt 11 (ctx .parked))).occ.store[(11 : StoreSlotId)] = none := by decide +kernel

theorem witness_OccQuery : answers (.occQuery hd (.ok none)) (parkedAt 3 (ctx .parked)) = [some .done] ∧
    answers (.occQuery hd (.ok (some 9))) (parkedAt 3 (ctx .parked)) = [some .done] := by decide +kernel

theorem witness_OccPark :
    answers (.occPark hd (.ok 9)) (occupied (ctx (.running 0 none))) = [some .done] ∧
    answers (.occPark hd (.ok 9)) (occupied (ctx (.complete .command))) = [some .wrongState] ∧
    answers (.occPark hd (.ok 9)) (parkedAt 3 (ctx .parked)) = [some .wrongState] ∧
    answers (.occPark hd (.ok 9)) { occupied (ctx .waiting) with
      occ := { (occupied (ctx .waiting)).occ with store := Vector.replicate 12 (some { ctx .parked with tag := 5 }) } } = [some .full] := by
  decide +kernel

theorem witness_OccUnpark :
    answers (.occUnpark hd (.ok 9)) (parkedAt 3 (ctx .parked)) = [some .done] ∧
    answers (.occUnpark hd (.ok 9)) (parkedAt 3 { ctx .parked with version := 2 }) = [some .done, none] ∧
    answers (.occUnpark hd (.ok 9)) (parkedAt 3 { ctx .parked with policy := { Config.factoryPolicy with resume := .held } }) =
      [some .done] ∧
    answers (.occUnpark hd (.ok 9)) (occupied (ctx .waiting)) = [some .wrongState] ∧
    answers (.occUnpark hd (.ok 9)) (setPort 0 State.offPort (parkedAt 3 (ctx .parked))) = [some .wrongState] ∧
    answers (.occUnpark hd (.ok 9)) (setActive 0 (some { ctx .waiting with tag := 5 }) (parkedAt 3 (ctx .parked))) = [some .inUse] := by
  decide +kernel

/-- A context of tag 5 active on H0 and the one of tag 9 parked. -/
def swapping (st : OccState) (parked : Context) : State := setActive 0 (some { ctx st with tag := 5 }) (parkedAt 3 parked)

theorem witness_OccSwap :
    answers (.occSwap hd (.ok ⟨5, 9⟩)) (swapping (.running 0 none) (ctx .parked)) = [some .done] ∧
    answers (.occSwap hd (.ok ⟨5, 9⟩)) (swapping .waiting { ctx .parked with version := 2 }) = [some .done, none] ∧
    answers (.occSwap hd (.ok ⟨5, 9⟩)) (swapping (.complete .target) (ctx .parked)) = [some .wrongState] ∧
    answers (.occSwap hd (.ok ⟨9, 5⟩)) (swapping .waiting (ctx .parked)) = [some .wrongState] ∧
    answers (.occSwap hd (.ok ⟨5, 9⟩)) (swapping .waiting { ctx .parked with head := 1 }) = [some .wrongHead] := by decide +kernel

theorem witness_OccClone :
    answers (.occClone hd (.ok ⟨9, 5, 1⟩)) (occupied (ctx .waiting)) = [some .done] ∧
    answers (.occClone hd (.ok ⟨9, 5, 1⟩)) (parkedAt 3 { ctx .parked with policy := { Config.factoryPolicy with settle := 0 } }) =
      [some .done] ∧
    answers (.occClone hd (.ok ⟨9, 9, 1⟩)) (occupied (ctx .waiting)) = [some .existing] ∧
    answers (.occClone hd (.ok ⟨9, 5, 1⟩)) (setPort 1 State.offPort (occupied (ctx .waiting))) = [some .wrongState] ∧
    answers (.occClone hd (.ok ⟨9, 5, 0⟩)) (occupied (ctx .waiting)) = [some .inUse] := by decide +kernel

/-- A head frame with counter 9, tick 100, raw count 1000, and a given status byte. -/
def headBytes1 (status : Byte) : List Byte :=
  let body : List Byte := [9#8, 100#8, 0#8, 0#8, 0#8, 0xE8#8, 3#8, 0#8, 0#8, 0#8, 0#8, 0#8, 0#8, 0#8, 0#8, 0#8, 0#8, status]
  0x5A#8 :: body ++ crcBytes (crc16 body)

/-- HEAD_FRAME: valid and taken, valid with a full partition, failed, and at a head that is OFF. -/
theorem witness_HeadFrame :
    (headFrameValid (headBytes1 0#8) = true ∧ (headBytes1 0#8).length = 21 ∧ (headBytes1 0#8).head? = some 0x5A#8 ∧
      headFrameValid ((headBytes1 0#8).take 20 ++ [0#8]) = false ∧ 0x5A#8 ∉ ((headBytes1 0#8).take 20 ++ [0#8]).tail ∧
      (decodeHeadFrame (headBytes1 0#8)).sensorFault = false ∧ (decodeHeadFrame (headBytes1 0#8)).ovenUnstable = false) ∧
    ((after (.headFrame 0 (headBytes1 0#8)) base).corr.inFlight.map fun k => k.sample.raw) = some 1000 ∧
    (after (.headFrame 0 (headBytes1 0#8)) (setPartition 0 (List.replicate 16 sample0) base)).ports[(0 : Head)].overruns = 1 ∧
    (after (.headFrame 0 (headBytes1 0#8)) (setPartition 0 (List.replicate 15 sample0) base)).ports[(0 : Head)].overruns = 0 ∧
    (after (.headFrame 0 ((headBytes1 0#8).take 20 ++ [0#8])) base).ports[(0 : Head)].linkErrors = 1 ∧
    (after (.headFrame 0 (headBytes1 0#8)) (setPort 0 State.offPort base)).ports[(0 : Head)] = State.offPort := by decide +kernel

/-- A frame with SENSOR_FAULT sets HEAD_STATUS and its sample carries the flag; a frame in two pieces is found. -/
theorem witness_HeadStatusAndPieces :
    (decodeHeadFrame (headBytes1 1#8)).sensorFault = true ∧ headFrameValid (headBytes1 1#8) = true ∧
    (after (.headFrame 0 (headBytes1 1#8)) base).ports[(0 : Head)].status = 8#5 ∧
    ((after (.headFrame 0 (headBytes1 1#8)) base).corr.inFlight.map fun k => k.sample.headStatus) = some true ∧
    ((headBytes1 0#8).take 7).head? = some 0x5A#8 ∧
    ((after (.headFrame 0 ((headBytes1 0#8).drop 7)) (after (.headFrame 0 ((headBytes1 0#8).take 7)) base)).corr.inFlight.map fun k =>
      k.sample.raw) = some 1000 := by decide +kernel

theorem witness_FaultCause :
    (setCause 0 .silent { occupied (ctx .waiting) with settings := { base.settings with
        heads := base.settings.heads.set 0 { enable := true, latency := 0, silence := 5, notify := 2#5, halt := 2#5 } } }).out.queue.length = 2 ∧
    (setCause 0 .silent base).out.queue.length = 1 ∧
    (setCause 0 .silent (setPort 0 { livePort with status := 2#5 } base)).out.queue.length = 0 ∧ RoomFor 2 (occupied (ctx .waiting)) :=
  ⟨by decide +kernel, by decide +kernel, by decide +kernel, room_of (by decide)⟩

theorem witness_SilenceExpiry :
    ([8999999, 9000000].map fun t => (after (.silenceExpiry 0) (clocked t .set)).ports[(0 : Head)].state) =
      [.live 9000000, .silent] := by decide +kernel

/-- Samples of H0 and H2 wait; the arbiter in a mode, with a last-served head and a service count. -/
def waitingHeads (m : ArbMode) (last : Option Head) (service : Nat) : State :=
  { setPartition 2 [{ sample0 with head := 2 }] (setPartition 0 [sample0] base) with
    settings := { base.settings with arbMode := m }
    corr := { last := last, service := service, inFlight := none } }

/-- The grant in both modes: after no head, after each kind of last-served head, and at the service limit 8. -/
theorem witness_Arbiter :
    [grantChoice (waitingHeads .rotating none 0), grantChoice (waitingHeads .rotating (some 0) 0),
      grantChoice (waitingHeads .rotating (some 2) 0), grantChoice (waitingHeads .fixed (some 0) 7),
      grantChoice (waitingHeads .fixed (some 0) 8), grantChoice (waitingHeads .fixed none 0), grantChoice base] =
      [some 0, some 2, some 0, some 0, some 2, some 0, none] := by decide +kernel

theorem witness_GrantBeginsACorrection : (waitingHeads .fixed none 0).corr.inFlight = none ∧
    (waitingHeads .fixed none 0).partitions[(0 : Head)] = sample0 :: [] ∧
    ((grant (waitingHeads .fixed none 0)).corr.inFlight.map fun k => k.sample) = some sample0 := by decide +kernel

/-- R31 at the bounds of the temperature and at a half: raw 500 of scale 1000 steps is 0.5 step, which rounds to 1. -/
theorem witness_SensorTemperature :
    ([85000, 85001, -40000, -40001].map fun x => temperatureOf { Config.factoryRecord.temp with scale := 1000 } x) =
      [85000, 85000, -40000, -40000] ∧
    ([1, -1].map fun x => temperatureOf { Config.factoryRecord.temp with scale := 500 } x) = [1, -1] := by decide +kernel

/-- The four cases of the lag state, at equal times and at the full lag. -/
theorem witness_LagState :
    lagStep 10 (some ⟨0, 0, 100⟩) false 50 100 = (0, 0, some ⟨0, 0, 100⟩) ∧
    lagStep 10 (some ⟨0, 0, 100⟩) false 50 10100 = (50, 300, some ⟨50, 50, 10100⟩) ∧
    lagStep 10 (some ⟨0, 0, 100⟩) false 50 5100 = (25, 600, some ⟨25, 50, 5100⟩) := by decide +kernel

/-- Gates at their limits: a tilt of 600 steps passes and one beyond it fails; the rate likewise. -/
theorem witness_Gates :
    ([(600, 0, 100), (600, 1, 100), (0, 0, 101)].map fun x =>
      failedGate { Config.factoryPolicy with tideRequired := false } emptyAccumulators
        { record0 0 with tiltX := x.1, tiltY := x.2.1 } x.2.2) = [none, some .tilt, some .tempRate] ∧
    failedGate Config.factoryPolicy emptyAccumulators (record0 0) 0 = some .tide := by decide +kernel

/-- A correction in flight, bound to a context or to none. -/
def correcting (b : Binding) (s : State) : State := { s with corr := { s.corr with inFlight := some (correction b) } }

/-- A running context that asks for no tide. -/
def runningCtx : Context := { ctx (.running 0 none) with policy := { Config.factoryPolicy with tideRequired := false } }

/-- CORRECTION_COMPLETE with no context, a held one, one of another version and a running one. -/
theorem witness_CorrectionComplete :
    ((correct (correction .none)).record.calibrated.isSome ∧ (∀ m : Fin 4, base.settings.selectors[m].enable = false) ∧
      base.archive.rings[(0 : Head)].records.length < 128 * Config.share base.settings.plan 0) ∧
    ([correcting .none base, correcting (.live 9) (occupied (ctx (.held .command))),
        correcting (.live 9) (occupied { ctx (.held .command) with version := 2 }),
        correcting (.live 9) (occupied runningCtx)].map fun s =>
          (after .correctionComplete s).archive.rings[(0 : Head)].records.map fun r => r.disposition) =
      [[.unbound], [.discarded .held], [.discarded .stale], [.accepted]] := by decide +kernel

/-- Step 1 of R37, the dispositions by version and state, and the counts. -/
theorem witness_Dispositions :
    ([Binding.none, .live 9, .live 8, .freed].map fun b => (rebound b (some (ctx .waiting)) { record0 0 with tide := some 5 }).tide) =
      [some 5, some 5, none, none] ∧
    ([ctx (.settling 0), ctx .waiting, ctx (.held .fault), ctx (.complete .target), { ctx .waiting with version := 2 },
        runningCtx, ctx (.running 0 none)].map fun c => (disposed (some c) (record0 0) 0).disposition) =
      [.discarded .settling, .discarded .waiting, .discarded .held, .discarded .complete, .discarded .stale, .accepted,
        .rejected .tide] ∧
    (countDisposition (.rejected .tide) { record0 0 with gap := some 1 } { emptyAccumulators with gaps := 65535 }).rejected.tide = 1 ∧
    (countDisposition (.rejected .tide) { record0 0 with gap := some 1 } { emptyAccumulators with gaps := 65535 }).gaps = 65535 ∧
    countDisposition (.discarded .complete) { record0 0 with gap := some 1 } emptyAccumulators = emptyAccumulators := by decide +kernel

/-- One sample short of the target, and two short of it. -/
def nearTarget (n : Nat) : State := occupied { runningCtx with acc := { emptyAccumulators with accepted := n } }

theorem witness_ReachingTheTarget :
    ([58, 59].map fun n => (disposeIn 0 { record0 0 with disposition := .accepted } (nearTarget n)).occ.active[(0 : Head)].isSome) =
      [true, false] ∧
    (disposeIn 0 { record0 0 with disposition := .accepted } (filled 48 (nearTarget 59))).occ.waiting = [0] ∧
    (RoomFor 1 (nearTarget 59) ∧ (nearTarget 59).occ.waiting = [] ∧ hasEntry (filled 48 (nearTarget 59)) = false) :=
  ⟨by decide +kernel, by decide +kernel, room_of (by decide), by decide, by decide⟩

/-- A full ring of H0, its oldest record at the cursor of a dump of so many records. -/
def fullRing (length : Nat) : State :=
  { base with
    archive :=
      { rings := base.archive.rings.set 0 ⟨List.replicate 2048 (record0 0), 2048⟩
        dump := some { dump0 with length := length } } }

theorem witness_AppendOverwrites :
    128 * Config.share (fullRing 3).settings.plan 0 ≤ (fullRing 3).archive.rings[(0 : Head)].records.length ∧
    0 < 128 * Config.share (fullRing 3).settings.plan 0 ∧ (2048 + (4294967296 - 2048 % 4294967296)) % 4294967296 = 0 ∧
    (fullRing 3).archive.dump = some dump0 ∧ dump0.head = 0 ∧ dump0.cursor = some 0 ∧
    dump0.sent + (dump0.skipped + 1) ≠ 3 ∧ dump0.sent + (dump0.skipped + 1) = 1 ∧ RoomFor 1 (fullRing 1) ∧
    (fullRing 1).sys.restartPending = false ∧ ringed.archive.rings[(0 : Head)].records.length < 128 * Config.share ringed.settings.plan 0 := by
  refine ⟨?_, by decide, by decide, by decide, by decide, by decide, by decide, by decide, room_of (by decide), by decide, by decide⟩
  show _ ≤ (List.replicate 2048 (record0 0)).length
  rw [List.length_replicate]; decide

/-- A selector of UNBOUND records of H0 that carry TIDE_ABSENT, and batches short of the threshold and at it. -/
def streaming (threshold : Nat) (l : List SampleRecord) : State :=
  let sel : Selector := { enable := true, heads := 1#4, classes := 8#4, mask := 4#4, value := 4#4 }
  setBatch 0 { records := l, expiry := none }
    { base with settings := { base.settings with selectors := base.settings.selectors.set 2 sel, threshold := threshold } }

theorem witness_Streaming :
    ([streaming 2 [], streaming 1 []].map fun s =>
      let t := streamRecord (record0 0) s
      (t.batches[(0 : Head)].records.length, t.batches[(0 : Head)].expiry, t.out.queue.length)) = [(1, some 1001500, 0), (0, none, 1)] ∧
    streamRecord { record0 0 with tide := some 0 } (streaming 1 []) = streaming 1 [] ∧
    streamRecord { record0 0 with disposition := .accepted } (streaming 1 []) = streaming 1 [] ∧
    (streamRecord (record0 0) (filled 48 (streaming 1 []))).out.samplesDropped = 1 ∧
    RoomFor 1 (streaming 1 []) ∧ (streaming 1 []).out.congested = false :=
  ⟨by decide +kernel, by decide +kernel, by decide +kernel, by decide +kernel, room_of (by decide), by decide⟩

theorem witness_LimitExpiry :
    answers (.limitExpiry 0) (occupied (ctx (.running 0 (some 1000500)))) = [none] ∧
    answers (.limitExpiry 0) (occupied (ctx (.running 0 (some 1000501)))) = [] ∧
    Quiet (occupied (ctx .waiting)) ∧ RoomFor 1 (occupied (ctx .waiting)) :=
  ⟨by decide +kernel, by decide +kernel, quiet_of (by decide), room_of (by decide)⟩

/-- A COMPLETE context whose reading waits. -/
def readingWaits : State :=
  { occupied (ctx (.complete .target)) with occ := { (occupied (ctx (.complete .target))).occ with waiting := [0] } }

theorem witness_ReadingJoin : readingWaits.occ.waiting = 0 :: [] ∧ Quiet readingWaits ∧ RoomFor 1 readingWaits ∧
    answers .readingJoin readingWaits = [none] ∧ (after .readingJoin readingWaits).occ.active[(0 : Head)] = none :=
  ⟨by decide, quiet_of (by decide), room_of (by decide), by decide +kernel⟩

/-- A full queue, its first message on the line, a reading that waits for an entry, and a frame that waits for one. -/
def jammed : State :=
  { readingWaits with
    out := (sending 48).out
    link := { readingWaits.link with intake := [.stnAge hd (.ok ())] } }

/-- The same without the reading: no other claimant is at hand, unless an event that would offer a message comes next. -/
def stuck (pending : List Instr) : State :=
  { base with
    pending := pending
    out := (sending 48).out
    link := { base.link with intake := [.stnAge hd (.ok ())] } }

theorem witness_FrameIsTaken : jammed.out.transmitting = true ∧ jammed.out.queue = filler :: List.replicate 47 filler ∧
    Quiet jammed ∧ hasEntry jammed = false ∧ jammed.sys.restartPending = false ∧
    jammed.link.intake = [.stnAge hd (.ok ())] ∧ (Instr.stnAge hd (.ok ())).isFrame = true ∧ Quiet (stuck []) ∧
    hasEntry (stuck []) = false ∧ Quiet (endTransmission jammed) :=
  ⟨by decide, by decide +kernel, quiet_of (by decide), by decide, by decide, by decide, by decide, quiet_of (by decide), by decide,
    quiet_of (by decide +kernel)⟩

/-- Who is at hand at the freed entry: nobody; a lost time mark that comes next; a time mark that offers no notice; a waiting reading;
a dump. -/
theorem witness_Rivals :
    ([[], [.lossExpiry], [.timeMark], [.transmissionComplete]].map fun l =>
      eventAtHand { endTransmission (stuck l) with clock := { time := 1000500, state := .locked 1000500 } }) =
      [false, true, true, false] ∧
    eventAtHand { endTransmission (stuck [.timeMark]) with clock := { time := 1000500, state := .set } } = false ∧
    (waitingRival (endTransmission jammed), waitingRival (endTransmission (stuck [])),
      waitingRival { ringed with archive := { ringed.archive with dump := some dump0 } }) =
      (some .readingJoin, none, some .dumpBlock) ∧ eventAtHand (endTransmission jammed) = false := by decide +kernel

/-- With nobody else at hand, a completion takes the frame that waits: it is answered in the entry that was freed (R170). -/
theorem test_frameTakenAtCompletion :
    ((after .transmissionComplete (stuck [])).link.intake, (after .transmissionComplete (stuck [])).out.queue.length,
      ((after .transmissionComplete (stuck [])).out.queue.map statusOf).getLast?, (after .transmissionComplete (stuck [])).choices) =
      ([], 48, some (some .done), 0) := by decide +kernel

/-- Both orders of R143 at the freed entry: the controller first, and the reading waits; or the reading first, and the frame waits. -/
theorem test_freedEntry :
    (let t := endTransmission jammed;
      (t.out.queue.length, ((takeFrame t).out.queue.map statusOf).getLast?, (takeFrame t).link.intake, (takeFrame t).occ.waiting,
        (after .readingJoin (takeFrame t)).occ.waiting)) = (47, some (some .done), [], [0], [0]) ∧
    (let t := afterEvent .readingJoin (endTransmission jammed);
      ((t.out.queue.map statusOf).getLast?, t.link.intake.length, t.occ.waiting, (claimEntry 3 t).link.intake.length)) =
      (some none, 1, [], 1) := by decide +kernel

/-- The values of a reading of 2 samples, 3 and 4 steps, of which one had a tide term of 5; and of none. -/
theorem witness_ReadingValues :
    (let r := makeReading { ctx .waiting with
        acc := { emptyAccumulators with accepted := 2, gravity := 7, squares := 25, tilt := -3, tide := 5, tideAbsent := 1 } } .target;
      (r.mean, r.stdErr, r.meanTilt, r.meanTemp, r.meanTide)) = (some 4, some 1, some (-2), some 0, some 5) ∧
    (let r := makeReading (ctx .waiting) .command;
      (r.mean, r.stdErr, r.meanTide)) = (none, none, none) := by decide +kernel

theorem witness_ReadingIsGood : policyOk Config.factoryPolicy = true ∧
    ([0, 9, 10, 60].map fun n => (makeReading { ctx .waiting with acc := { emptyAccumulators with accepted := n } } .target).good) =
      [false, false, true, true] := by decide +kernel

/-- Line 1 in a mode, at a level, with its re-arm flag. -/
def lined (m : SourceMode) (level rearm : Bool) : State :=
  { base with
    settings := { base.settings with sources := base.settings.sources.set 1 ⟨m, true, true⟩ }
    events := { base.events with level := if level then 2#4 else 0#4, rearm := if rearm then 2#4 else 0#4 } }

theorem witness_EventLineChange :
    ([(SourceMode.off, true, false, false), (.rising, true, false, false), (.rising, false, true, false), (.falling, false, true, false),
        (.high, true, false, true), (.high, true, false, false), (.high, false, true, false), (.low, false, true, true)].map fun x =>
      let t := after (.eventLineChange 1 x.2.1) (lined x.1 x.2.2.1 x.2.2.2)
      (t.events.pending, t.events.rearm)) =
      [(0#8, 0#4), (2#8, 0#4), (0#8, 0#4), (2#8, 0#4), (2#8, 0#4), (0#8, 0#4), (0#8, 2#4), (2#8, 0#4)] ∧
    Quiet (lined .high false true) := ⟨by decide +kernel, quiet_of (by decide)⟩

theorem witness_RequestsAndLatch :
    (raise 4 base).events.pending = 16#8 ∧ (raise 0 base).events.pending = 0#8 ∧ (raise 4 State.reset).events.pending = 0#8 ∧
    (latchNext { base with events := { base.events with pending := 0x90#8 } }).events =
      { base.events with pending := 0x10#8, latch := some 7 } ∧
    latchNext { base with events := { base.events with latch := some 3, pending := 0x90#8 } } =
      { base with events := { base.events with latch := some 3, pending := 0x90#8 } } := by decide +kernel

/-- Source 5 latched, with a context on H0. -/
def latched (c : Context) : State := { occupied c with events := { base.events with latch := some 5 } }

theorem witness_EventDispatch :
    ([ctx (.running 0 none), { ctx (.running 0 none) with hold := 0#8 }, ctx (.held .event), ctx (.held .stale),
        { ctx (.held .event) with policy := { Config.factoryPolicy with resettle := false } }].map fun c =>
      (after .eventDispatch (latched c)).occ.active[(0 : Head)].map fun d => d.state) =
      [some (.held .event), some (.running 0 none), some (.settling 1060500), some (.held .stale), some (.running 1000500 none)] ∧
    nextSource (latched (ctx .waiting)) = none ∧ RoomFor 2 (latched (ctx .waiting)) ∧
    (∀ m : Head, m ≠ 0 → (latched (ctx .waiting)).occ.active[m] = none) :=
  ⟨by decide +kernel, by decide, room_of (by decide), by decide +kernel⟩

/-- A held context that resettles with a settle time of 0: RUNNING at once, or at its group's list. -/
theorem witness_WakeWithoutSettling :
    ([none, some 0].map fun g =>
      (after .eventDispatch (latched { ctx (.held .event) with
        policy := { Config.factoryPolicy with settle := 0 }, group := g })).occ.active[(0 : Head)].map fun d =>
          (d.state, d.acc.segments)) = [some (.running 1000500 none, 1), some (.waiting, 0)] ∧ Config.factoryPolicy.resettle = true := by
  decide +kernel

/-- Source 5 latched with three heads bound: H0 runs; H1 is held, wakes without settling, and completes group 0, in which H2 waits. -/
def crowd : State :=
  { setActive 2 (some { ctx .waiting with tag := 4, head := 2, group := some 0 })
    (setActive 1 (some { ctx (.held .event) with
        tag := 3, head := 1, group := some 0, hold := 0#8, policy := { Config.factoryPolicy with settle := 0 } })
      (setGroup 0 { arrivals := [4], timer := some 1060500, run := 6 } (latched (ctx (.running 0 none))))) with
    settings := { base.settings with sources := base.settings.sources.set 5 ⟨.on, false, true⟩ } }

/-- The heads are reached in order, each in the state the earlier ones left: H2, released by the wake of H1, is held out of RUNNING. -/
theorem witness_DispatchReachesHeadsInOrder : crowd.events.latch = some 5 ∧
    (heads.map fun n => (after .eventDispatch crowd).occ.active[n].map fun d => d.state) =
      [some (.held .event), some (.running 1000500 none), some (.held .event), none] ∧
    (after .eventDispatch crowd).out.queue =
      [.notice 1000500 (.contextHold 9 0 .running (.source 5)), .notice 1000500 (.jointRelease 0 7 1000500 [⟨4, 2⟩, ⟨3, 1⟩]),
        .notice 1000500 (.contextHold 4 2 .running (.source 5)), .notice 1000500 (.event 5 none 2 1)] := by decide +kernel

/-- The ring with sequences 5 to 7, so that a first sequence may lie in it, behind it or ahead of it. -/
def laterRing : State :=
  { base with archive := { base.archive with rings := base.archive.rings.set 0 ⟨[record0 5, record0 6, record0 7], 8⟩ } }

/-- DUMP_START inside the ring at both ends, behind it, wholly behind it, ahead of it; and with a dump in flight. -/
theorem witness_DumpStart :
    ([(5, 1), (7, 8192), (4, 2), (3, 1)].map fun x =>
      (after (.dumpStart hd (.ok ⟨0, x.1, x.2, 8, false⟩)) laterRing).archive.dump.map fun d => (d.cursor, d.last, d.length, d.skipped)) =
      [some (some 5, 5, 1, 0), some (some 7, 7, 1, 0), some (some 5, 5, 2, 1), none] ∧
    answers (.dumpStart hd (.ok ⟨0, 4, 1, 8, false⟩)) laterRing = [some .accepted, none] ∧
    answers (.dumpStart hd (.ok ⟨0, 9, 1, 1, true⟩)) laterRing = [some .notFound] ∧
    (after (.dumpStart hd (.ok ⟨0, 8, 8192, 8, false⟩)) laterRing).out.queue.map statusOf = [some .accepted, none] ∧
    (after (.dumpStart hd (.ok ⟨0, 8, 8192, 8, false⟩)) laterRing).archive.dump = none ∧
    answers (.dumpStart hd (.ok ⟨0, 2147483656, 1, 1, true⟩)) laterRing = [some .accepted, none] ∧
    answers (.dumpStart hd (.ok ⟨0, 2147483655, 1, 1, true⟩)) laterRing = [some .notFound] ∧
    answers (.dumpStart hd (.ok ⟨0, 0, 1, 1, true⟩)) { ringed with archive := { ringed.archive with dump := some dump0 } } = [some .busy] := by
  decide +kernel

/-- A dump of the ring of three in blocks of two: first block, last block, and its stop. -/
theorem witness_DumpBlock :
    (Quiet ringed ∧ RoomFor 2 ringed ∧ ringed.out.congested = false) ∧
    ((after .dumpBlock { ringed with archive := { ringed.archive with dump := some dump0 } }).archive.dump.map fun d => (d.cursor, d.sent)) =
      some (some 2, 2) ∧
    answers .dumpBlock { ringed with archive := { ringed.archive with dump := some { dump0 with cursor := some 2, sent := 2 } } } =
      [none, none] ∧
    answers (.dumpStop hd (.ok ())) { ringed with archive := { ringed.archive with dump := some dump0 } } = [some .done, none] :=
  ⟨⟨quiet_of (by decide), room_of (by decide), by decide⟩, by decide +kernel⟩

/-! ## Messages on the line (section 10.7) -/

/-- Lengths that section 10.7 gives: a sample record 59 bytes, a reading 108, the data of STATUS 134. -/
theorem test_lengths : (sampleBytes (record0 0)).length = 59 ∧ (readingBytes (makeReading (ctx .waiting) .target)).length = 108 ∧
    (statusBytes (statusReport base)).length = 134 := by decide +kernel

/-- STN_GET sends an adjustment list behind a presence byte: 0 alone without one, 1 and the list's length before its entries. -/
theorem test_stationBytes : ((stationBytes rec70 6 0).drop 20).take 1 = [0#8] ∧
    ((stationBytes { rec70 with adjust := [⟨1, 900, 100⟩] } 6 0).drop 20).take 3 = [1#8, 1#8, 1#8] ∧
    (stationBytes rec70 6 0).length = 26 := by decide +kernel

/-- The reply to an ARB_SET on the line: start marker, length, the reply kind, the
command's sender and sequence number, the segment byte, the command kind and DONE. -/
theorem test_lineOut :
    ((after (.arbSet hd (.ok ⟨.fixed, 3⟩)) { base with pins := { base.pins with linkReady := true } }).out.lineOut.map fun f => f.take 8) =
      [[0xA5#8, 3#8, 0xF0#8, 0#8, 7#8, 0x80#8, 0x12#8, 0#8]] := by decide +kernel

/-- Every row answers a next state where it finds nothing to do. -/
theorem test_ownSteps : ([.silenceExpiry 0, .correctionComplete, .flushExpiry 0, .settleExpiry 0, .gatheringExpiry 0, .limitExpiry 0,
      .readingJoin, .lossExpiry, .pageRetirement 0, .spanStart, .eventDispatch, .transmissionComplete, .dumpBlock, .loadComplete,
      .saveComplete true, .linkReady false] : List Instr).all (fun i => decide (after i base = base)) = true := by decide +kernel

theorem test_coldStart : after .coldStart State.reset = State.reset ∧ (after .loadComplete State.reset).sys.part = .ready ∧
    (after .loadComplete State.reset).ports[(0 : Head)].state = .awaiting ∧
    (after .loadComplete State.reset).out.queue.length = 1 := by decide +kernel

end Sys2Proof.Tests
end

section
/-! PROOFS. The rounding of the rules as a relation, with its uniqueness, and a taken command from its frame to its reply. -/

namespace Sys2Proof.Machine

/-! ## Rounding, a value halfway away from zero (R29) -/

/-- z is a / b rounded: within a half of it, and not nearer to zero when exactly a half away. -/
def IsRounding (z a : Int) (b : Nat) : Prop :=
  2 * (a - z * b).natAbs ≤ b ∧ (2 * (a - z * b).natAbs = b → a.natAbs ≤ z.natAbs * b)

theorem roundDiv_isRounding (a : Int) {b : Nat} (hb : 0 < b) : IsRounding (roundDiv a b) a b := roundDiv_spec a b hb

/-- Two roundings of one fraction could only be neighbours with the fraction halfway between, and then one of them is nearer to zero. -/
theorem IsRounding.not_lt {z q a : Int} {b : Nat} (hb : 0 < b) (hz : IsRounding z a b) (hq : IsRounding q a b) : ¬ z < q := by
  intro hlt
  obtain ⟨hz1, hz2⟩ := hz
  obtain ⟨hq1, hq2⟩ := hq
  have hnext : q = z + 1 := by
    by_contra hne
    have hfar : (z + 2) * b ≤ q * b := Int.mul_le_mul_of_nonneg_right (by omega) (by omega)
    rw [Int.add_mul] at hfar
    omega
  subst hnext
  rw [Int.add_mul, Int.one_mul] at hq1 hq2
  obtain hneg | hnonneg := Int.lt_or_le z 0
  · have habs : ((z + 1).natAbs * b : Nat) = -(z * b + b : Int) := by
      rw [Nat.cast_mul, Int.ofNat_natAbs_of_nonpos (by omega)]; ring
    have hq0 : (z + 1) * b ≤ 0 := Int.mul_nonpos_of_nonpos_of_nonneg (by omega) (by omega)
    rw [Int.add_mul, Int.one_mul] at hq0
    omega
  · have habs : ((z.natAbs * b : Nat) : Int) = z * b := by
      rw [Nat.cast_mul, Int.natAbs_of_nonneg hnonneg]
    have hz0 : 0 ≤ z * b := Int.mul_nonneg hnonneg (by omega)
    omega

theorem IsRounding.unique {z q a : Int} {b : Nat} (hb : 0 < b) (hz : IsRounding z a b) (hq : IsRounding q a b) : z = q :=
  Int.le_antisymm (Int.not_lt.mp (hq.not_lt hb hz)) (Int.not_lt.mp (hz.not_lt hb hq))

/-- Rounding as the rules say it, over fractions. -/
theorem isRounding_of_abs {a z : Int} {b : Nat} (hb : 0 < b) (hnear : |(a / b : ℚ) - z| ≤ 1 / 2)
    (hhalf : |(a / b : ℚ) - z| = 1 / 2 → |(a / b : ℚ)| ≤ |(z : ℚ)|) : IsRounding z a b := by
  have hbq : (0 : ℚ) < b := by exact_mod_cast hb
  have hdist : |(a / b : ℚ) - z| = ((a - z * b).natAbs : ℚ) / b := by
    rw [div_sub' hbq.ne', abs_div, abs_of_pos hbq, Nat.cast_natAbs]
    push_cast
    rw [mul_comm (z : ℚ)]
  have hsize : |(a / b : ℚ)| = (a.natAbs : ℚ) / b := by
    rw [abs_div, abs_of_pos hbq, Nat.cast_natAbs, Int.cast_abs]
  have habs : |(z : ℚ)| = z.natAbs := by rw [Nat.cast_natAbs, Int.cast_abs]
  rw [hdist, div_le_iff₀ hbq] at hnear
  rw [hdist, hsize, habs, div_eq_iff hbq.ne', div_le_iff₀ hbq] at hhalf
  constructor
  · have h : (2 * (a - z * b).natAbs : ℚ) ≤ b := by linarith
    exact_mod_cast h
  · intro heq
    have h : (2 * (a - z * b).natAbs : ℚ) = b := by exact_mod_cast heq
    exact_mod_cast hhalf (by linarith)

theorem clampInt_eq_max_min {lo hi : Int} (h : lo ≤ hi) (z : Int) : clampInt lo hi z = max lo (min hi z) := by
  unfold clampInt
  split_ifs <;> omega

/-! ## A taken command, from its frame to its reply -/

/-- An attentive part handles a frame whose only effect on the link is its reply. -/
theorem exec_answers {c : Instr} {m : Message} {s t : State} (hc : c.isFrame = true) (hs : Attentive s)
    (hm : handleFrame c s = told m t) (ht : Attentive t) : exec c s = .next (told m t) := by
  obtain ⟨hintake, -, hquiet, -⟩ := ht
  have hq : Quiet (handleFrame c s) := by rw [hm]; exact quiet_congr rfl rfl hquiet
  have hi : (handleFrame c s).link.intake = [] := by rw [hm]; exact hintake
  rw [exec_frame hc, receive_taken c hs hq hi, hm]

section
variable {α : Type} {k : Kind} {h : Header} {c : Instr} {ground : α → State → Option Status} {act : α → State → State} {s : State}

/-- A taken command whose body does not match its form is answered BAD_VALUE (R171, ground 4). -/
theorem exec_malformed (hc : c.isFrame = true) (ht : Taken k h s)
    (hf : handleFrame c s = command k h (.malformed : Body α) ground act s) :
    exec c s = .next (answered h k .badValue .none s) := by
  obtain ⟨hatt, hready, hperm⟩ := ht
  obtain ⟨-, -, -, hroom⟩ := id hatt
  refine exec_answers hc hatt ?_ hatt
  have hreply : command k h (.malformed : Body α) ground act s = reply h k.code .badValue .none s := by
    simp [command, hready, hperm]
  rw [hf, hreply, reply_answered Nat.one_pos hroom]
  rfl

/-- A taken command that meets a ground of its own rule is refused, and nothing else happens. -/
theorem exec_refuses {a : α} {st : Status} (hc : c.isFrame = true) (ht : Taken k h s)
    (hf : handleFrame c s = command k h (.ok a) ground act s) (hg : ground a s = some st) :
    exec c s = .next (answered h k st .none s) := by
  obtain ⟨hatt, hready, hperm⟩ := ht
  obtain ⟨-, -, -, hroom⟩ := id hatt
  refine exec_answers hc hatt ?_ hatt
  rw [hf, command_refuses hready hperm hg, reply_answered Nat.one_pos hroom]
  rfl

/-- A taken command that meets no ground acts; where its action is a change of state and the reply DONE, that is all. -/
theorem exec_done {a : α} {d : ReplyData} {t : State} (hc : c.isFrame = true) (ht : Taken k h s)
    (hf : handleFrame c s = command k h (.ok a) ground act s) (hg : ground a s = none) (ha : act a s = done h k d t)
    (hatt' : Attentive t) : exec c s = .next (answered h k .done d t) := by
  obtain ⟨hatt, hready, hperm⟩ := ht
  obtain ⟨-, -, -, hroom⟩ := id hatt'
  refine exec_answers hc hatt ?_ hatt'
  rw [hf, command_acts hready hperm hg, ha, done_answered Nat.one_pos hroom]
  rfl

end

/-! ## Heads named by a byte -/

@[simp] theorem headOf_val (n : Head) : headOf n.val = some n := by simp [headOf]

theorem headOf_eq_none {m : Nat} (h : 3 < m) : headOf m = none := by
  simp [headOf]; omega

end Sys2Proof.Machine
end

section
/-! PROOFS. CAL_DISCARD, CAL_READ and the sensor temperature (R25, R28, R31). -/

namespace Sys2Proof.Machine

/-! ## The grounds and actions of CAL_DISCARD and CAL_READ -/

theorem handleFrame_calDiscard (h : Header) (b : Body Nat) (s : State) :
    handleFrame (.calDiscard h b) s = command .calDiscard h b groundHead (actCalDiscard h) s := rfl

theorem handleFrame_calRead (h : Header) (b : Body CalReadParams) (s : State) :
    handleFrame (.calRead h b) s = command .calRead h b groundCalRead (actCalRead h) s := rfl

/-- A staged record is nothing that the taking of commands rests on. -/
theorem attentive_setStaged {s : State} (n : Head) (r : Option CalRecord) (h : Attentive s) : Attentive (setStaged n r s) := h

theorem readPartOk_iff (p : CalReadPart) : readPartOk p = true ↔ ∀ k, p = .table k → 1 ≤ k ∧ k ≤ 32 := by
  cases p <;> simp [readPartOk, between]

section
variable {n : Head} {staged : Bool} {part : CalReadPart} {s : State}

theorem groundCalRead_head {m : Nat} (hm : 3 < m) : groundCalRead ⟨m, staged, part⟩ s = some .badValue := by
  simp [groundCalRead, headOf_eq_none hm]

theorem groundCalRead_part (hp : readPartOk part = false) : groundCalRead ⟨n.val, staged, part⟩ s = some .badValue := by
  simp [groundCalRead, hp]

theorem groundCalRead_unstaged (hp : readPartOk part = true) (hn : s.cal.staged[n] = none) :
    groundCalRead ⟨n.val, true, part⟩ s = some .notFound := by
  simp [groundCalRead, hp, hn]

theorem groundCalRead_none (hp : readPartOk part = true) (hr : staged = true → s.cal.staged[n] ≠ none) :
    groundCalRead ⟨n.val, staged, part⟩ s = none := by
  cases staged with
  | false => simp [groundCalRead, hp]
  | true => simpa [groundCalRead, hp] using hr rfl

/-- CAL_READ acts on the record it was asked for: the committed one, or the staged one where there is one. -/
theorem actCalRead_eq {h : Header} {r : CalRecord} (hc : staged = false → r = s.settings.cal[n].record)
    (hs : staged = true → s.cal.staged[n] = some r) :
    actCalRead h ⟨n.val, staged, part⟩ s =
      done h .calRead (.calRead s.settings.cal[n].version s.cal.staged[n].isSome (readPart r part)) s := by
  cases staged with
  | false => simp [actCalRead, hc rfl]
  | true => simp [actCalRead, stagedOrCopy, hs rfl]

end

/-! ## The sensor temperature -/

theorem correct_temp (k : Correction) : (correct k).record.temp = temperatureOf k.record.temp k.sample.temp := rfl

theorem temperatureOf_eq {t : TempItems} {raw z : Int} (hz : IsRounding z ((raw - t.offset) * t.scale) 1000) :
    temperatureOf t raw = max (-40000) (min 85000 z) := by
  have hround : roundDiv ((raw - t.offset) * t.scale) 1000 = z := (roundDiv_isRounding _ (by decide)).unique (by decide) hz
  rw [temperatureOf, hround, clampInt_eq_max_min (by decide)]

/-! ## The statements -/

/-- Settles O22: a head in range passes the only ground, and the action is the one field and the reply. -/
theorem calDiscardLeavesNoStagedRecord : Obligations.CalDiscardLeavesNoStagedRecord := by
  intro h s ht
  refine ⟨fun m hm => ?outOfRange, fun n => ?inRange⟩
  case outOfRange =>
    exact exec_refuses rfl ht (handleFrame_calDiscard ..) (by simp [groundHead, headOf_eq_none hm])
  case inRange =>
    have hact : actCalDiscard h n.val s = done h .calDiscard .none (setStaged n none s) := by simp [actCalDiscard]
    exact exec_done rfl ht (handleFrame_calDiscard ..) (by simp [groundHead]) hact (attentive_setStaged n none ht.1)

/-- Settles O23: the grounds of R28 one by one, then the reply from the record asked for. -/
theorem calReadReportsARecord : Obligations.CalReadReportsARecord := by
  intro h staged part s ht
  refine ⟨exec_malformed rfl ht (handleFrame_calRead h .malformed s),
    fun m hm => exec_refuses rfl ht (handleFrame_calRead ..) (groundCalRead_head hm),
    fun n => ⟨?index, fun hk => ?_⟩⟩
  case index =>
    rintro k rfl hk
    have hbad : readPartOk (.table k) = false := by
      rw [← Bool.not_eq_true, readPartOk_iff]
      intro hok
      have := hok k rfl
      omega
    exact exec_refuses rfl ht (handleFrame_calRead ..) (groundCalRead_part hbad)
  have hpart : readPartOk part = true := (readPartOk_iff part).mpr hk
  refine ⟨?unstaged, fun r hcommitted hstaged => ?reports⟩
  case unstaged =>
    rintro rfl hnone
    exact exec_refuses rfl ht (handleFrame_calRead ..) (groundCalRead_unstaged hpart hnone)
  case reports =>
    have hground : groundCalRead ⟨n.val, staged, part⟩ s = none :=
      groundCalRead_none hpart fun hst => by simp [hstaged hst]
    rw [exec_done rfl ht (handleFrame_calRead ..) hground (actCalRead_eq hcommitted hstaged) ht.1]
    cases part <;> rfl

/-- Settles O27: the model rounds by `roundDiv`, and no other integer is a rounding of the same fraction. -/
theorem sensorTemperatureIsScaledAndHeld : Obligations.SensorTemperatureIsScaledAndHeld := by
  rintro k x z rfl hnear hhalf
  rw [correct_temp]
  exact temperatureOf_eq (isRounding_of_abs (by decide) (by exact_mod_cast hnear) (by exact_mod_cast hhalf))

end Sys2Proof.Machine
end

section
/-! PROOFS. STN_GET (R67): a number's record and its chain position. -/

namespace Sys2Proof.Machine

/-! ## The record of a number, and where it stands (R59) -/

theorem stationOk_iff (n : Nat) : stationOk n = true ↔ 1 ≤ n ∧ n ≤ 16777215 := by simp [stationOk, between]

theorem findStation_eq_none_iff {t : StationTable} {n : Nat} :
    findStation t n = none ↔ ∀ r ∈ bucketRecords t.buckets[bucketIndex n], r.number ≠ n := by
  simp [findStation, List.find?_eq_none]

/-- A record carries the number and stands at a chain position of its bucket, and no record before it carries the number. -/
structure CarriedAt (t : StationTable) (n k : Nat) (r : StationRecord) : Prop where
  stands : (bucketRecords t.buckets[bucketIndex n])[k]? = some r
  carries : r.number = n
  first : ∀ j < k, ∀ x, (bucketRecords t.buckets[bucketIndex n])[j]? = some x → x.number ≠ n

section
variable {t : StationTable} {n k : Nat} {r : StationRecord}

theorem CarriedAt.findStation_eq (hr : CarriedAt t n k r) : findStation t n = some r := by
  obtain ⟨hk, hstands⟩ := List.getElem?_eq_some_iff.mp hr.stands
  refine List.find?_eq_some_iff_getElem.mpr ⟨beq_iff_eq.mpr hr.carries, k, hk, hstands, fun j hj => ?_⟩
  simpa using hr.first j hj _ (List.getElem?_eq_getElem (hj.trans hk))

theorem CarriedAt.stationPosition_eq (hr : CarriedAt t n k r) : stationPosition t n = k := by
  obtain ⟨hk, hstands⟩ := List.getElem?_eq_some_iff.mp hr.stands
  refine (List.findIdx_eq hk).mpr ⟨beq_iff_eq.mpr (hstands ▸ hr.carries), fun j hj => ?_⟩
  simpa using hr.first j hj _ (List.getElem?_eq_getElem (hj.trans hk))

end

/-! ## The grounds and the action of STN_GET (R67) -/

theorem handleFrame_stnGet (h : Header) (b : Body Nat) (s : State) :
    handleFrame (.stnGet h b) s = command .stnGet h b groundStnGet (actStnGet h) s := rfl

section
variable {n : Nat} {s : State}

theorem groundStnGet_range (hn : stationOk n = false) : groundStnGet n s = some .badValue := by simp [groundStnGet, hn]

theorem groundStnGet_absent (hn : stationOk n = true) (hf : findStation s.table n = none) :
    groundStnGet n s = some .notFound := by
  simp [groundStnGet, hn, hf]

theorem groundStnGet_present {r : StationRecord} (hn : stationOk n = true) (hf : findStation s.table n = some r) :
    groundStnGet n s = none := by
  simp [groundStnGet, hn, hf]

theorem actStnGet_eq {k : Nat} {r : StationRecord} (h : Header) (hr : CarriedAt s.table n k r) :
    actStnGet h n s = done h .stnGet (.station r (n % 64) k) s := by
  simp [actStnGet, hr.findStation_eq, hr.stationPosition_eq, bucketIndex]

end

/-! ## The statement -/

/-- Settles O25: the two grounds of R67, then the reply from the first record of the bucket that carries the number. -/
theorem stnGetReportsTheRecord : Obligations.StnGetReportsTheRecord := by
  intro h m s ht
  refine ⟨fun hout => ?outOfRange, fun hlo hhi habsent => ?absent, fun k r hlo hhi hstands hcarries hfirst => ?reports⟩
  case outOfRange =>
    have hbad : stationOk m = false := by
      rw [← Bool.not_eq_true, stationOk_iff]
      omega
    exact exec_refuses rfl ht (handleFrame_stnGet ..) (groundStnGet_range hbad)
  case absent =>
    have hok : stationOk m = true := (stationOk_iff m).mpr ⟨hlo, hhi⟩
    exact exec_refuses rfl ht (handleFrame_stnGet ..) (groundStnGet_absent hok (findStation_eq_none_iff.mpr habsent))
  case reports =>
    have hok : stationOk m = true := (stationOk_iff m).mpr ⟨hlo, hhi⟩
    have hr : CarriedAt s.table m k r := ⟨hstands, hcarries, hfirst⟩
    exact exec_done rfl ht (handleFrame_stnGet ..) (groundStnGet_present hok hr.findStation_eq) (actStnGet_eq h hr) ht.1

end Sys2Proof.Machine
end

section
/-! PROOFS. The status of a reading (R102). -/

namespace Sys2Proof.Machine

/-- The counts of a policy in the ranges of R75: a minimum of at least 3 that does not lie above the target. -/
theorem policyOk_minimum {p : Policy} (hp : policyOk p = true) : 3 ≤ p.minimum ∧ p.minimum ≤ p.target := by
  simp only [policyOk, between, Bool.and_eq_true, decide_eq_true_eq] at hp
  obtain ⟨⟨⟨⟨⟨⟨-, hminimum⟩, -⟩, -⟩, -⟩, -⟩, -⟩ := hp
  exact hminimum

section
variable {c : Context} {w : CompletionReason}

theorem makeReading_good_iff : (makeReading c w).good = true ↔ c.policy.minimum ≤ c.acc.accepted := by simp [makeReading]

theorem makeReading_good_eq_false_iff : (makeReading c w).good = false ↔ c.acc.accepted < c.policy.minimum := by
  rw [← Bool.not_eq_true, makeReading_good_iff, Nat.not_le]

/-- The status rests on the accepted count and the minimum alone. -/
theorem makeReading_good_congr {d : Context} {v : CompletionReason} (hmin : d.policy.minimum = c.policy.minimum)
    (hacc : d.acc.accepted = c.acc.accepted) : (makeReading d v).good = (makeReading c w).good := by
  rw [Bool.eq_iff_iff, makeReading_good_iff, makeReading_good_iff, hmin, hacc]

end

/-- Settles O30: the status compares the accepted count with the minimum, which R75 holds above 0 and at most at the target. -/
theorem readingIsGoodWithEnoughSamples : Obligations.ReadingIsGoodWithEnoughSamples := by
  intro c w v f
  refine ⟨makeReading_good_iff, fun hp hnone => ?noSample, fun hp htarget => ?atTarget, makeReading_good_congr rfl rfl⟩
  case noSample =>
    obtain ⟨hpos, -⟩ := policyOk_minimum hp
    exact makeReading_good_eq_false_iff.mpr (by omega)
  case atTarget =>
    obtain ⟨-, hle⟩ := policyOk_minimum hp
    exact makeReading_good_iff.mpr (htarget ▸ hle)

end Sys2Proof.Machine
end

section
/-! PROOFS. What a step can do, said once: every step is a chain of moves, each of which changes one thing that the laws of the part
speak of, under the guards that the model tests before it. -/

namespace Sys2Proof.Machine

-- One theorem at a time: side by side, the proofs ask for more threads than the check's memory limit has stacks for.
set_option Elab.async false

/-! ## Changes that no law speaks of -/

/-- The difference between two states is nothing that a law speaks of; bounded things stay within their bounds. -/
structure Alike (s t : State) : Prop where
  queue : s.out.queue.length ≤ 48 → t.out.queue.length ≤ 48 := by exact id
  intake : s.link.intake.length ≤ 4 → t.link.intake.length ≤ 4 := by exact id
  noticesLost : s.out.noticesLost ≤ 65535 → t.out.noticesLost ≤ 65535 := by exact id
  samplesDropped : s.out.samplesDropped ≤ 65535 → t.out.samplesDropped ≤ 65535 := by exact id
  framesDropped : s.link.framesDropped ≤ 65535 → t.link.framesDropped ≤ 65535 := by exact id
  overflows : s.link.overflows ≤ 65535 → t.link.overflows ≤ 65535 := by exact id
  off : ∀ n : Head, t.ports[n].state = .off ↔ s.ports[n].state = .off := by exact fun _ => Iff.rfl
  linkErrors : ∀ n : Head, s.ports[n].linkErrors ≤ 65535 → t.ports[n].linkErrors ≤ 65535 := by exact fun _ => id
  overruns : ∀ n : Head, s.ports[n].overruns ≤ 65535 → t.ports[n].overruns ≤ 65535 := by exact fun _ => id
  gaps : ∀ n : Head, s.ports[n].gaps ≤ 65535 → t.ports[n].gaps ≤ 65535 := by exact fun _ => id
  idle : s.corr.inFlight = none → t.corr.inFlight = none := by exact id
  slots : t.pages.slots = s.pages.slots := by rfl
  table : t.table = s.table := by rfl
  active : t.occ.active = s.occ.active := by rfl
  store : t.occ.store = s.occ.store := by rfl
  groups : t.groups = s.groups := by rfl
  targets : t.settings.groups = s.settings.groups := by rfl
  plan : t.settings.plan = s.settings.plan := by rfl
  part : t.sys.part = s.sys.part := by rfl
  partitions : t.partitions = s.partitions := by rfl
  rings : t.archive.rings = s.archive.rings := by rfl

theorem Alike.refl (s : State) : Alike s s := {}

theorem Alike.trans {s t u : State} (h : Alike s t) (k : Alike t u) : Alike s u where
  queue := k.queue ∘ h.queue
  intake := k.intake ∘ h.intake
  noticesLost := k.noticesLost ∘ h.noticesLost
  samplesDropped := k.samplesDropped ∘ h.samplesDropped
  framesDropped := k.framesDropped ∘ h.framesDropped
  overflows := k.overflows ∘ h.overflows
  off n := (k.off n).trans (h.off n)
  linkErrors n := k.linkErrors n ∘ h.linkErrors n
  overruns n := k.overruns n ∘ h.overruns n
  gaps n := k.gaps n ∘ h.gaps n
  idle := k.idle ∘ h.idle
  slots := k.slots.trans h.slots
  table := k.table.trans h.table
  active := k.active.trans h.active
  store := k.store.trans h.store
  groups := k.groups.trans h.groups
  targets := k.targets.trans h.targets
  plan := k.plan.trans h.plan
  part := k.part.trans h.part
  partitions := k.partitions.trans h.partitions
  rings := k.rings.trans h.rings

/-! ## Contexts that follow one another in a slot -/

/-- The two are one context: what a context keeps for life is the same. -/
structure Kin (c d : Context) : Prop where
  tag : d.tag = c.tag := by rfl
  head : d.head = c.head := by rfl
  station : d.station = c.station := by rfl
  group : d.group = c.group := by rfl
  policy : d.policy = c.policy := by rfl

theorem Kin.trans {c d e : Context} (h : Kin c d) (k : Kin d e) : Kin c e :=
  ⟨k.tag.trans h.tag, k.head.trans h.head, k.station.trans h.station, k.group.trans h.group, k.policy.trans h.policy⟩

/-- The context is COMPLETE. -/
def IsComplete (c : Context) : Prop := ∃ w, c.state = .complete w

/-- An active context that stays active: it does not leave COMPLETE, and accepts a sample only short of its target or to complete (R88). -/
structure Follows (c d : Context) : Prop extends Kin c d where
  parked : d.state = .parked → c.state = .parked
  complete : IsComplete c → IsComplete d
  accepted : d.acc.accepted = c.acc.accepted ∨
    ¬ IsComplete c ∧ d.acc.accepted = c.acc.accepted + 1 ∧ (¬ IsComplete d → d.acc.accepted < d.policy.target)

/-- The context is in SETTLING, RUNNING or HELD: neither WAITING nor COMPLETE nor PARKED. -/
def Afoot (c : Context) : Prop := c.state ≠ .waiting ∧ ¬ IsComplete c ∧ c.state ≠ .parked

/-- A parked context made active. -/
structure Resumes (c d : Context) : Prop extends Kin c d where
  afoot : Afoot d
  accepted : d.acc.accepted = c.acc.accepted

theorem Follows.of_state_eq {c d : Context} (h : Kin c d) (hs : d.state = c.state) (ha : d.acc.accepted = c.acc.accepted) :
    Follows c d :=
  { h with
    parked := fun hp => hs ▸ hp
    complete := fun ⟨w, hw⟩ => ⟨w, hs ▸ hw⟩
    accepted := .inl ha }

/-- A context that was not COMPLETE enters a state other than PARKED. -/
theorem Follows.of_enters {c d : Context} (h : Kin c d) (hc : ¬ IsComplete c) (hp : d.state ≠ .parked)
    (ha : d.acc.accepted = c.acc.accepted) : Follows c d :=
  { h with
    parked := fun h => absurd h hp
    complete := fun h => absurd h hc
    accepted := .inl ha }

/-! ## The moves -/

/-- The table once a new context names a station: its record counts one more, or a new record is placed (R62, R70). -/
def Enrols (o : Occupations) (number : Nat) (t u : StationTable) : Prop :=
  ((findStation t number).isSome = true ∨ ∃ x ∈ liveContexts o, x.2.station = number) ∧ u = updateStation number (markUsed 1) t ∨
    ∃ r : StationRecord, findStation t number = none ∧ hasRoom t number = true ∧ r.number = number ∧ r.refs = 1 ∧
      u = placeRecord r t

/-- The active context of a head stands at the tail of its group's list, WAITING (R134). -/
def waits (n : Head) (c : Context) (g : Group) (s : State) : State :=
  setGroup g
    { s.groups[g] with
      arrivals := s.groups[g].arrivals ++ [c.tag]
      timer := if s.groups[g].arrivals.isEmpty then some ((now s : Int) + 1000 * s.settings.groups[g].waitLimit)
        else s.groups[g].timer }
    (setActive n (some { c with state := .waiting }) s)

/-- Every member on the list of a group has entered RUNNING, changed by f first, and the group is IDLE (R135, R136). -/
def started (g : Group) (run : Nat) (f : Context → Context) (s : State) : State :=
  setGroup g { arrivals := [], timer := none, run := run } (s.groups[g].arrivals.foldl (startMember f) s)

/-- A parked context stands in its head's slot, its station's mark set. -/
def resumeIn (c d : Context) (s : State) : State :=
  setActive c.head (some d) (setTable (updateStation c.station (markUsed 0) s.table) s)

/-- A change of the station table by its own commands (R65, R66, R71). -/
inductive TableMove (t : StationTable) : StationTable → Prop
  | put (p : StnPutParams) (hr : findStation t p.station = none → hasRoom t p.station = true) : TableMove t (putStation p t)
  | delete {n : Nat} {r : StationRecord} (hf : findStation t n = some r) (hr : r.refs = 0) : TableMove t (removeStation n t)
  | age : TableMove t (ageTable t)

/-- A change of the tide page slots (R46 to R49, R52). -/
inductive PageMove (v : Vector PageSlot 3) : Vector PageSlot 3 → Prop
  | openSlot (k : PageSlotId) (p : Page) (hk : slotPage v[k] = none)
      (hn : ∀ (j : PageSlotId) (q : Page), slotPage v[j] = some q → q.number ≠ p.number) : PageMove v (v.set k (.filling p))
  | fill (k : PageSlotId) (p q : Page) (hk : v[k] = .filling p) (hn : q.number = p.number) : PageMove v (v.set k (.filling q))
  | commit (k : PageSlotId) (p : Page) (hk : v[k] = .filling p)
      (ho : ∀ (j : PageSlotId) (q : Page), v[j] = .ready q → pagesOverlap p q = false) : PageMove v (v.set k (.ready p))
  | empty (k : PageSlotId) : PageMove v (v.set k .empty)

/-- A change of contexts, with the groups, references and bindings that go with it. -/
inductive OccMove (s : State) : State → Prop
  | openContext (n : Head) (c : Context) (t : StationTable) (hr : s.sys.part = .ready) (hn : s.occ.active[n] = none)
      (ht : ∀ x ∈ liveContexts s.occ, x.2.tag ≠ c.tag) (hh : c.head = n) (hs : Afoot c) (ha : c.acc.accepted = 0)
      (hp : 10 ≤ c.policy.target ∨ ∃ x ∈ liveContexts s.occ, x.2.policy = c.policy) (he : Enrols s.occ c.station s.table t) :
      OccMove s (setActive n (some c) (setTable t s))
  | touch (n : Head) {c d : Context} (hc : s.occ.active[n] = some c) (hf : Follows c d)
      (hw : d.state = .waiting ↔ c.state = .waiting) : OccMove s (setActive n (some d) s)
  | leave (n : Head) {c d : Context} (hc : s.occ.active[n] = some c) (hf : Follows c d) (hw : d.state ≠ .waiting) :
      OccMove s (leaveList d (setActive n (some d) s))
  | wait (n : Head) {c : Context} {g : Group} (hc : s.occ.active[n] = some c) (hs : Afoot c) (hg : c.group = some g)
      (hl : s.groups[g].arrivals.length + 1 < s.settings.groups[g].target) : OccMove s (waits n c g s)
  | arriveLast (n : Head) {c : Context} {g : Group} (run f) (hf : ∀ c, Kin c (f c) ∧ (f c).acc.accepted = c.acc.accepted)
      (hc : s.occ.active[n] = some c) (hs : Afoot c) (hg : c.group = some g) : OccMove s (started g run f (waits n c g s))
  | release (g run f) (hf : ∀ c, Kin c (f c) ∧ (f c).acc.accepted = c.acc.accepted) : OccMove s (started g run f s)
  | park (n : Head) (k : StoreSlotId) {c : Context} (hc : s.occ.active[n] = some c) (hk : s.occ.store[k] = none)
      (hs : ¬ IsComplete c) : OccMove s (park n k c s)
  | unpark (k : StoreSlotId) {c d : Context} (hk : s.occ.store[k] = some c) (hn : s.occ.active[c.head] = none)
      (hr : s.sys.part = .ready) (hd : Resumes c d) : OccMove s (resumeIn c d (setStored k none s))
  | swap (n : Head) (k : StoreSlotId) {a b d : Context} (ha : s.occ.active[n] = some a) (hb : s.occ.store[k] = some b)
      (hh : a.head = b.head) (hs : ¬ IsComplete a) (hr : s.sys.part = .ready) (hd : Resumes b d) :
      OccMove s (resumeIn b d (Machine.park n k a s))
  | freeActive (n : Head) {c : Context} (hc : s.occ.active[n] = some c) : OccMove s (freeActive n c s)
  | freeStored (k : StoreSlotId) {c : Context} (hc : s.occ.store[k] = some c) : OccMove s (freeStored k c s)

/-- One change of a thing that the laws speak of, with what the model has tested before it. -/
inductive Move (s : State) : State → Prop
  | alike {t : State} (h : Alike s t) : Move s t
  | start (pending sys clock tide pins choices) (h : PartUnit.part sys = .starting) :
      Move s (State.starting pending sys clock tide pins choices)
  | load (h : s.sys.part = .starting) : Move s (takeSettings s)
  | setupHead (n p) (h : s.sys.part = .ready) : Move s (storeHead n p s)
  | plan (p) (h : s.sys.part = .ready) (he : ∀ n : Head, s.partitions[n] = []) : Move s (putPlan p s)
  | push (n : Head) (x) (hp : s.ports[n].state ≠ .off) (hl : s.partitions[n].length < Config.share s.settings.plan n) :
      Move s (setPartition n (s.partitions[n] ++ [x]) s)
  | pop (n : Head) {x rest} (h : s.partitions[n] = x :: rest) (k : CorrectionUnit) :
      Move s (setPartition n rest { s with corr := k })
  | append (n : Head) (r : SampleRecord) (hr : r.head = n) (hc : Config.capacity s.settings.plan n ≠ 0)
      (hf : s.corr.inFlight.isSome = true) :
      Move s (setRing n (appendRing (Config.capacity s.settings.plan n) { r with seq := s.archive.rings[n].counter }
        s.archive.rings[n]) s)
  | clockStep (d) : Move s (applyStep d s)
  | groupSet (g : Group) (target wait) (hok : groupSettingsOk target wait = true) (ha : s.groups[g].arrivals = []) :
      Move s (storeGroup g (some (target, wait)) s)
  | pages {v : Vector PageSlot 3} (h : PageMove s.pages.slots v) : Move s { s with pages := { s.pages with slots := v } }
  | table {t : StationTable} (h : TableMove s.table t) : Move s (setTable t s)
  | occ {t : State} (h : OccMove s t) : Move s t

/-- A chain of moves. -/
abbrev Moves : State → State → Prop := Relation.ReflTransGen Move

theorem Alike.moves {s t : State} (h : Alike s t) : Moves s t := .single (.alike h)

theorem Move.moves {s t : State} (h : Move s t) : Moves s t := .single h

theorem PageMove.moves {s : State} {v : Vector PageSlot 3} (h : PageMove s.pages.slots v) :
    Moves s { s with pages := { s.pages with slots := v } } := .single (.pages h)

theorem TableMove.moves {s : State} {t : StationTable} (h : TableMove s.table t) : Moves s (setTable t s) := .single (.table h)

theorem OccMove.moves {s t : State} (h : OccMove s t) : Moves s t := .single (.occ h)

/-- What every move keeps, every chain of moves keeps. -/
theorem Moves.keeps {P : State → Prop} (hP : ∀ s t, Move s t → P s → P t) {s t : State} (h : Moves s t) (hs : P s) : P t := by
  induction h with
  | refl => exact hs
  | tail _ hm ih => exact hP _ _ hm ih

end Sys2Proof.Machine
end

section
/-! PROOFS. The shared operations as chains of moves. -/

namespace Sys2Proof.Machine

-- One theorem at a time: side by side, the proofs ask for more threads than the check's memory limit has stacks for.
set_option Elab.async false

/-! ## Entries of a vector -/

theorem vget_set {α : Type} {k : Nat} (v : Vector α k) (i j : Fin k) (a : α) :
    (v.set i a)[j] = if i = j then a else v[j] := by
  simp [Vector.getElem_set, Fin.ext_iff]

@[simp] theorem vget_set_self {α : Type} {k : Nat} (v : Vector α k) (i : Fin k) (a : α) : (v.set i a)[i] = a := by
  simp

theorem vget_set_ne {α : Type} {k : Nat} (v : Vector α k) {i j : Fin k} (h : i ≠ j) (a : α) : (v.set i a)[j] = v[j] := by
  rw [vget_set, if_neg h]

@[simp] theorem vget_vmap {α β : Type} {k : Nat} (f : α → β) (v : Vector α k) (i : Fin k) : (vmap f v)[i] = f v[i] := by
  simp [vmap]

/-! ## Single fields -/

theorem satAdd_le (c n : Nat) : satAdd c n ≤ 65535 := Nat.min_le_right _ _

/-- A port that is OFF exactly when the old one is, and whose counts stay within their bounds. -/
theorem setPort_alike (n : Head) (p : HeadPort) (s : State) (ho : p.state = .off ↔ s.ports[n].state = .off)
    (hl : s.ports[n].linkErrors ≤ 65535 → p.linkErrors ≤ 65535) (hv : s.ports[n].overruns ≤ 65535 → p.overruns ≤ 65535)
    (hg : s.ports[n].gaps ≤ 65535 → p.gaps ≤ 65535) : Alike s (setPort n p s) where
  off m := by rw [setPort_ports, vget_set]; split <;> simp_all
  linkErrors m := by rw [setPort_ports, vget_set]; split <;> simp_all
  overruns m := by rw [setPort_ports, vget_set]; split <;> simp_all
  gaps m := by rw [setPort_ports, vget_set]; split <;> simp_all

theorem raise_alike (i : Source) (s : State) : Alike s (raise i s) := by
  obtain ⟨e, h⟩ := raise_frame i s
  rw [h]; exact {}

theorem latchNext_alike (s : State) : Alike s (latchNext s) := by
  obtain ⟨e, h⟩ := latchNext_frame s
  rw [h]; exact {}

theorem pushMessage_queue (high : Nat) (ready : Bool) (m : Message) (o : Outbound) :
    (pushMessage high ready m o).queue = o.queue ++ [m] := by
  simp [pushMessage, beginTransmission_queue]

theorem beginTransmission_counts (r : Bool) (o : Outbound) :
    (beginTransmission r o).noticesLost = o.noticesLost ∧ (beginTransmission r o).samplesDropped = o.samplesDropped := by
  unfold beginTransmission
  split
  · exact ⟨rfl, rfl⟩
  · split <;> exact ⟨rfl, rfl⟩

theorem pushMessage_counts (high : Nat) (ready : Bool) (m : Message) (o : Outbound) :
    (pushMessage high ready m o).noticesLost = o.noticesLost ∧ (pushMessage high ready m o).samplesDropped = o.samplesDropped :=
  beginTransmission_counts ready _

theorem join_alike (m : Message) (s : State) : Alike s (join m s) := by
  obtain ⟨hn, hd⟩ := pushMessage_counts s.settings.high s.pins.linkReady m s.out
  unfold join
  split
  · rename_i hroom
    have hpush : Alike s { s with out := pushMessage s.settings.high s.pins.linkReady m s.out } :=
      { queue := fun _ => by simpa [pushMessage_queue, Config.queueSize] using hroom
        noticesLost := fun h => hn ▸ h
        samplesDropped := fun h => hd ▸ h }
    split
    · exact hpush.trans (raise_alike ..)
    · exact hpush
  · exact .refl s

theorem offerNotice_alike (n : Notice) (s : State) : Alike s (offerNotice n s) := by
  unfold offerNotice
  split
  · exact join_alike ..
  · exact { noticesLost := fun _ => satAdd_le .. }

theorem reply_alike (h : Header) (k : Nat) (st : Status) (d : ReplyData) (s : State) : Alike s (reply h k st d s) := join_alike ..

theorem done_alike (h : Header) (k : Kind) (d : ReplyData) (s : State) : Alike s (done h k d s) := join_alike ..

theorem setBatch_alike (n : Head) (b : Batch) (s : State) : Alike s (setBatch n b s) := {}

theorem offerBatch_alike (n : Head) (c : BatchCause) (s : State) : Alike s (offerBatch n c s) := by
  unfold offerBatch
  split
  · exact (setBatch_alike ..).trans (join_alike ..)
  · exact { samplesDropped := fun _ => satAdd_le .. }

theorem offerIntake_alike (c : Instr) (s : State) : Alike s (offerIntake c s) := by
  unfold offerIntake
  split
  · rename_i hroom
    exact { intake := fun _ => by simpa [Config.intakeSize] using hroom }
  · exact { overflows := fun _ => satAdd_le .. }

theorem setTide_alike (x : TideState) (s : State) : Alike s (setTide x s) := {}

theorem evalTide_alike (s : State) : Alike s (evalTide s) := by
  unfold evalTide
  split
  · exact setTide_alike ..
  · split
    · split
      · exact .refl s
      · exact (setTide_alike ..).trans (offerNotice_alike ..)
    · split
      · exact .refl s
      · exact ((setTide_alike ..).trans (offerNotice_alike ..)).trans (raise_alike ..)

/-! ## What the operations on the queue leave in place -/

section
variable (m : Message) (nt : Notice) (h : Header) (k : Kind) (st : Status) (d : ReplyData) (s : State)

@[simp] theorem join_occ : (join m s).occ = s.occ := by obtain ⟨o, e, hj⟩ := join_frame m s; rw [hj]
@[simp] theorem join_corr : (join m s).corr = s.corr := by obtain ⟨o, e, hj⟩ := join_frame m s; rw [hj]
@[simp] theorem join_sys : (join m s).sys = s.sys := by obtain ⟨o, e, hj⟩ := join_frame m s; rw [hj]
@[simp] theorem done_occ : (done h k d s).occ = s.occ := join_occ ..
@[simp] theorem done_sys : (done h k d s).sys = s.sys := join_sys ..
@[simp] theorem offerNotice_occ : (offerNotice nt s).occ = s.occ := by obtain ⟨o, e, hj⟩ := offerNotice_frame nt s; rw [hj]

end

/-! ## Contexts -/

theorem Kin.refl (c : Context) : Kin c c := {}

theorem running_kin (t : Nat) (c : Context) : Kin c (running t c) := {}

theorem settled_kin (t : Nat) (c : Context) : Kin c (settled t c) := {}

theorem not_isComplete_of_gathering {c : Context} (h : gathering c = true) : ¬ IsComplete c := by
  rintro ⟨w, hw⟩
  simp [gathering, hw] at h

theorem not_isComplete_of_isHeld {c : Context} (h : isHeld c = true) : ¬ IsComplete c := by
  rintro ⟨w, hw⟩
  simp [isHeld, hw] at h

theorem afoot_of_isHeld {c : Context} (h : isHeld c = true) : Afoot c := by
  refine ⟨fun hw => ?_, not_isComplete_of_isHeld h, fun hp => ?_⟩
  · simp [isHeld, hw] at h
  · simp [isHeld, hp] at h

theorem settleExpiryOf_eq_some {c : Context} {e : Int} (h : settleExpiryOf c = some e) : c.state = .settling e := by
  unfold settleExpiryOf at h
  split at h <;> simp_all

theorem afoot_of_settling {c : Context} {e : Int} (h : c.state = .settling e) : Afoot c := by
  simp [Afoot, IsComplete, h]

theorem afoot_running (t : Nat) (c : Context) : Afoot (running t c) := by simp [Afoot, IsComplete, running]

theorem afoot_settled (t : Nat) (c : Context) : Afoot (settled t c) := by simp [Afoot, IsComplete, settled]

theorem afoot_stale (c : Context) : Afoot (stale c) := by simp [Afoot, IsComplete, stale]

/-- A context on its way enters another state on its way. -/
theorem OccMove.enter {s : State} {n : Head} {c d : Context} (hc : s.occ.active[n] = some c) (ha : Afoot c) (hd : Afoot d)
    (hk : Kin c d) (hacc : d.acc.accepted = c.acc.accepted) : OccMove s (setActive n (some d) s) := by
  obtain ⟨hcw, hcc, -⟩ := ha
  obtain ⟨hdw, -, hdp⟩ := hd
  exact .touch n hc (.of_enters hk hcc hdp hacc) ⟨fun h => absurd h hdw, fun h => absurd h hcw⟩

/-! ## Joint groups -/

/-- A member of a joint release, with its run number and start time (R135). -/
def inRun (run t : Nat) (c : Context) : Context := { c with acc := { c.acc with joint := some (run, t) } }

/-- A member of a list whose gathering timer has expired (R136). -/
def leftUnjoined (c : Context) : Context := { c with flags := { c.flags with unjoined := true } }

theorem jointRelease_eq (g : Group) (s : State) : jointRelease g s =
    offerNotice (.jointRelease g (nextRun s.groups[g].run) (now s) (membersOf s.occ s.groups[g].arrivals))
      (started g (nextRun s.groups[g].run) (inRun (nextRun s.groups[g].run) (now s)) s) := rfl

theorem gatheringEnds_eq (g : Group) (s : State) : gatheringEnds g s =
    offerNotice (.unjoined g (membersOf s.occ s.groups[g].arrivals)) (started g s.groups[g].run leftUnjoined s) := rfl

theorem gatheringEnds_moves (g : Group) (s : State) : Moves s (gatheringEnds g s) := by
  rw [gatheringEnds_eq]
  exact (OccMove.release g _ leftUnjoined fun _ => ⟨{}, rfl⟩).moves.trans (offerNotice_alike ..).moves

theorem arrive_moves {n : Head} {c : Context} {g : Group} {s : State} (hc : s.occ.active[n] = some c) (ha : Afoot c)
    (hg : c.group = some g) : Moves s (arrive n c g s) := by
  have heq : arrive n c g s =
      if s.settings.groups[g].target ≤ s.groups[g].arrivals.length + 1 then jointRelease g (waits n c g s)
      else waits n c g s := by
    simp only [arrive, waits, List.length_append, List.length_singleton]
  rw [heq]
  split
  · rw [jointRelease_eq]
    exact (OccMove.arriveLast n _ (inRun _ _) (fun _ => ⟨{}, rfl⟩) hc ha hg).moves.trans (offerNotice_alike ..).moves
  · exact (OccMove.wait n hc ha hg (by omega)).moves

theorem settleEnds_moves (n : Head) (s : State) : Moves s (settleEnds n s) := by
  unfold settleEnds
  split
  · exact .refl
  · rename_i c hc
    split
    · exact .refl
    · rename_i e he _
      exact (OccMove.enter hc (afoot_of_settling (settleExpiryOf_eq_some he)) (afoot_running ..) (running_kin ..) rfl).moves
    · rename_i e g he hg
      exact arrive_moves hc (afoot_of_settling (settleExpiryOf_eq_some he)) hg

theorem passSettle_moves (n : Head) (s : State) : Moves s (passSettle n s) := by
  unfold passSettle
  split
  · exact .refl
  · split
    · exact settleEnds_moves n s
    · exact .refl

/-! ## Holds and releases -/

theorem enterHeld_moves {n : Head} {c d : Context} {s : State} (hc : s.occ.active[n] = some c) (hg : ¬ IsComplete c)
    (hk : Kin c d) (ha : d.acc.accepted = c.acc.accepted) (r : HoldReason) : Moves s (enterHeld n d r s) :=
  (OccMove.leave (d := { d with state := .held r, acc := leaveState (now s) d }) n hc
    (.of_enters ⟨hk.tag, hk.head, hk.station, hk.group, hk.policy⟩ hg (by simp) ha) (by simp)).moves

theorem holdByEvent_moves {n : Head} {c : Context} {s : State} (hc : s.occ.active[n] = some c) (hg : ¬ IsComplete c) (i : Source) :
    Moves s (holdByEvent n c i s) :=
  (enterHeld_moves hc hg (.refl c) rfl .event).trans (offerNotice_alike ..).moves

theorem faultHalt_moves (n : Head) (f : FaultCause) (s : State) : Moves s (faultHalt n f s) := by
  unfold faultHalt
  split
  · exact .refl
  · rename_i c hc
    split
    · rename_i hg
      have hheld := enterHeld_moves (d := { c with flags := { c.flags with faultHeld := true } }) hc
        (not_isComplete_of_gathering hg) {} rfl .fault
      exact hheld.trans (offerNotice_alike ..).moves
    · exact .refl

theorem setCause_moves (n : Head) (f : FaultCause) (s : State) : Moves s (setCause n f s) := by
  unfold setCause
  dsimp only
  split
  · exact .refl
  · have hnoticed : Alike s (if inSet s.settings.heads[n].notify (causeIndex f) = true then
          offerNotice (.fault n f (withMember s.ports[n].status (causeIndex f)))
            (setPort n { s.ports[n] with status := withMember s.ports[n].status (causeIndex f) } s)
        else setPort n { s.ports[n] with status := withMember s.ports[n].status (causeIndex f) } s) := by
      have hport := setPort_alike n { s.ports[n] with status := withMember s.ports[n].status (causeIndex f) } s Iff.rfl id id id
      split
      · exact hport.trans (offerNotice_alike ..)
      · exact hport
    split
    · exact hnoticed.moves.trans (faultHalt_moves ..)
    · exact hnoticed.moves

theorem releaseHeld_moves {n : Head} {c : Context} {s : State} (hc : s.occ.active[n] = some c) (hh : isHeld c = true) :
    Moves s (releaseHeld n c s) := by
  unfold releaseHeld
  split
  · exact (OccMove.enter hc (afoot_of_isHeld hh) (afoot_settled ..) (settled_kin ..) rfl).moves.trans (passSettle_moves ..)
  · exact (OccMove.enter hc (afoot_of_isHeld hh) (afoot_running ..) (running_kin ..) rfl).moves

/-! ## Readings and completion -/

/-- The heads whose readings wait are nothing that a law speaks of. -/
theorem setWaiting_alike (l : List Head) (s : State) : Alike s { s with occ := { s.occ with waiting := l } } := {}

theorem joinReading_moves (s : State) : Moves s (joinReading s) := by
  unfold joinReading
  split
  · exact .refl
  · rename_i n _ _
    split
    · split
      · exact .refl
      · rename_i c hc
        split
        · exact .refl
        · exact (join_alike ..).moves.trans (OccMove.freeActive n (by simpa using hc)).moves
    · exact .refl

theorem offerReadings_moves (s : State) : Moves s (offerReadings s) :=
  (((joinReading_moves _).trans (joinReading_moves _)).trans (joinReading_moves _)).trans (joinReading_moves _)

/-- A context that completes; the sample that brought it to its target is in its count already. -/
theorem complete_moves {n : Head} {c d : Context} {s : State} (hc : s.occ.active[n] = some c) (hk : Kin c d) (hn : ¬ IsComplete c)
    (ha : d.acc.accepted = c.acc.accepted ∨ d.acc.accepted = c.acc.accepted + 1) (r : CompletionReason) :
    Moves s (complete n d r s) := by
  have hf : Follows c { d with state := .complete r, acc := { leaveState (now s) d with completion := some (now s) } } :=
    { tag := hk.tag, head := hk.head, station := hk.station, group := hk.group, policy := hk.policy
      parked := fun h => by simp at h
      complete := fun h => absurd h hn
      accepted := ha.imp id fun h => ⟨hn, h, fun h' => absurd ⟨r, rfl⟩ h'⟩ }
  exact ((OccMove.leave n hc hf (by simp)).moves.trans (setWaiting_alike ..).moves).trans (offerReadings_moves _)

/-! ## Dispatch -/

theorem dispatchHead_moves (i : Source) (x : Dispatched) (n : Head) : Moves x.state (dispatchHead i x n).state := by
  unfold dispatchHead
  split
  · exact .refl
  · rename_i c hc
    have holds (hg : gathering c = true) :
        Moves x.state (if inSet c.hold i.val then { x with state := holdByEvent n c i x.state, held := x.held + 1 } else x).state := by
      split
      · exact holdByEvent_moves hc (not_isComplete_of_gathering hg) i
      · exact .refl
    have wakes (hh : isHeld c = true) :
        Moves x.state (if inSet c.wake i.val then { x with state := releaseHeld n c x.state, woken := x.woken + 1 } else x).state := by
      split
      · exact releaseHeld_moves hc hh
      · exact .refl
    split
    case h_4 | h_8 | h_9 => exact .refl
    case h_1 | h_2 | h_3 => exact holds (by simp [gathering, *])
    case h_5 | h_6 | h_7 => exact wakes (by simp [isHeld, *])

theorem dispatchHeads_moves (i : Source) (l : List Head) (x : Dispatched) :
    Moves x.state (l.foldl (dispatchHead i) x).state := by
  induction l generalizing x with
  | nil => exact .refl
  | cons n l ih => exact (dispatchHead_moves i x n).trans (ih _)

theorem setEvents_alike (e : EventUnit) (s : State) : Alike s { s with events := e } := {}

theorem dispatchSource_moves (i : Source) (s : State) : Moves s (dispatchSource i s) := by
  have hx := dispatchHeads_moves i heads { state := s, held := 0, woken := 0 }
  unfold dispatchSource
  dsimp only
  refine Relation.ReflTransGen.trans ?_ (setEvents_alike ..).moves
  split
  · exact hx.trans (offerNotice_alike ..).moves
  · exact hx

theorem drainSteps_moves (k : Nat) (s : State) : Moves s (drainSteps k s) := by
  induction k generalizing s with
  | zero => exact .refl
  | succ k ih =>
    unfold drainSteps
    dsimp only
    split
    · exact (latchNext_alike s).moves
    · exact ((latchNext_alike s).moves.trans (dispatchSource_moves ..)).trans (ih _)

theorem drain_moves (s : State) : Moves s (drain s) := drainSteps_moves 16 s

theorem dispatchLatched_moves (s : State) : Moves s (dispatchLatched s) := by
  unfold dispatchLatched
  split
  · exact .refl
  · exact dispatchSource_moves ..

/-! ## Pages, dumps and batches -/

theorem retireEnded_moves (s : State) (k : PageSlotId) : Moves s (retireEnded s k) := by
  unfold retireEnded
  split
  · exact .refl
  · exact ((PageMove.empty k).moves.trans (offerNotice_alike ..).moves).trans (raise_alike ..).moves

theorem pageStep_moves (s : State) : Moves s (pageStep s) := by
  have hfold (l : List PageSlotId) (t : State) : Moves t (l.foldl retireEnded t) := by
    induction l generalizing t with
    | nil => exact .refl
    | cons k l ih => exact (retireEnded_moves t k).trans (ih _)
  exact (hfold pageSlots s).trans (evalTide_alike _).moves

theorem setDump_alike (d : Option Dump) (s : State) : Alike s (setDump d s) := {}

theorem endDump_alike (b : Bool) (s : State) : Alike s (endDump b s) := by
  unfold endDump
  split
  · exact .refl s
  · exact (setDump_alike ..).trans (offerNotice_alike ..)

theorem endIfCovered_alike (s : State) : Alike s (endIfCovered s) := by
  unfold endIfCovered
  split
  · exact .refl s
  · split
    · exact endDump_alike ..
    · exact .refl s

theorem overwritten_alike (n : Head) (q : Nat) (s : State) : Alike s (overwritten n q s) := by
  unfold overwritten
  split
  · exact .refl s
  · split
    · exact (setDump_alike ..).trans (endIfCovered_alike _)
    · exact .refl s

theorem produceBlock_alike (s : State) : Alike s (produceBlock s) := by
  unfold produceBlock
  split
  · exact .refl s
  · split
    · exact .refl s
    · dsimp only
      split
      · exact .refl s
      · exact ((setDump_alike ..).trans (join_alike ..)).trans (endIfCovered_alike _)

theorem appendBatch_alike (r : SampleRecord) (s : State) : Alike s (appendBatch r s) := by
  unfold appendBatch
  dsimp only
  split
  · exact (setBatch_alike ..).trans (offerBatch_alike ..)
  · exact setBatch_alike ..

theorem streamRecord_alike (r : SampleRecord) (s : State) : Alike s (streamRecord r s) := by
  unfold streamRecord
  split
  · exact appendBatch_alike ..
  · exact .refl s

theorem setLag_alike (n : Head) (l : Option LagState) (s : State) : Alike s (setLag n l s) := {}

theorem rebatch_alike (move : Int) (s : State) (n : Head) : Alike s (rebatch move s n) := by
  unfold rebatch
  dsimp only
  split
  · exact .refl s
  · split
    · exact offerBatch_alike ..
    · split
      · exact (setBatch_alike ..).trans (offerBatch_alike ..)
      · exact setBatch_alike ..

end Sys2Proof.Machine
end

section
/-! PROOFS. Every step as a chain of moves: the steps of the part's own, the commands, and what an idle part does. -/

namespace Sys2Proof.Machine

-- One theorem at a time: side by side, the proofs ask for more threads than the check's memory limit has stacks for.
set_option Elab.async false

/-! ## Head ports (R1 to R10) -/

theorem faultHalt_ports (n : Head) (f : FaultCause) (s : State) : (faultHalt n f s).ports = s.ports := by
  obtain ⟨o, e, oc, j, h⟩ := faultHalt_frame n f s
  rw [h]

theorem offerNotice_ports (nt : Notice) (s : State) : (offerNotice nt s).ports = s.ports := by
  obtain ⟨o, e, h⟩ := offerNotice_frame nt s
  rw [h]

/-- A fault cause changes the status set of its head's port and no other item of a port. -/
theorem setCause_ports (n : Head) (f : FaultCause) (s : State) :
    (setCause n f s).ports = s.ports ∨
      (setCause n f s).ports = s.ports.set n { s.ports[n] with status := withMember s.ports[n].status (causeIndex f) } := by
  unfold setCause
  dsimp only
  split
  · exact .inl rfl
  · right
    split <;> split <;> simp only [faultHalt_ports, offerNotice_ports, setPort_ports]

theorem setCause_port_state (n m : Head) (f : FaultCause) (s : State) : (setCause n f s).ports[m].state = s.ports[m].state := by
  obtain h | h := setCause_ports n f s
  · rw [h]
  · rw [h, vget_set]
    split
    · rename_i hnm
      rw [hnm]
    · rfl

theorem grantHead_moves (n : Head) (s : State) : Moves s (grantHead n s) := by
  unfold grantHead
  split
  · exact .refl
  · rename_i x rest h
    exact (Move.pop n h _).moves

theorem grant_moves (s : State) : Moves s (grant s) := by
  unfold grant
  split
  · exact grantHead_moves ..
  · exact .refl
  · exact .refl

theorem grant_ports (s : State) : (grant s).ports = s.ports := by
  unfold grant
  split
  · unfold grantHead
    split <;> rfl
  · rfl
  · rfl

theorem linkError_moves (n : Head) (s : State) : Moves s (linkError n s) :=
  (setPort_alike n { s.ports[n] with linkErrors := satAdd s.ports[n].linkErrors 1 } s Iff.rfl (fun _ => satAdd_le ..) id
    id).moves.trans (setCause_moves ..)

theorem linkError_port_state (n : Head) (s : State) : (linkError n s).ports[n].state = s.ports[n].state := by
  rw [linkError, setCause_port_state, setPort_ports, vget_set_self]

theorem setReceiver_alike (n : Head) (r : Receiver) (s : State) : Alike s (setReceiver n r s) :=
  setPort_alike n { s.ports[n] with rx := r } s Iff.rfl id id id

theorem setReceiver_port_state (n : Head) (r : Receiver) (s : State) : (setReceiver n r s).ports[n].state = s.ports[n].state := by
  rw [setReceiver, setPort_ports, vget_set_self]

theorem pushSample_moves {n : Head} {s : State} (h : s.ports[n].state ≠ .off) (x : Sample) : Moves s (pushSample n x s) := by
  unfold pushSample
  split
  · rename_i hroom
    have hport : Alike s (setPort n (portAfterPush x s.ports[n]) s) := by
      refine setPort_alike n _ s Iff.rfl id id fun hg => ?_
      unfold portAfterPush
      dsimp only
      split
      · exact satAdd_le ..
      · exact hg
    have hoff : (setPort n (portAfterPush x s.ports[n]) s).ports[n].state ≠ .off := by
      rwa [setPort_ports, vget_set_self]
    exact hport.moves.trans (Move.push (s := setPort n (portAfterPush x s.ports[n]) s) n x hoff hroom).moves
  · exact (setPort_alike n { s.ports[n] with overruns := satAdd s.ports[n].overruns 1 } s Iff.rfl id (fun _ => satAdd_le ..)
      id).moves.trans (setCause_moves ..)

theorem pushSample_port_state (n : Head) (x : Sample) (s : State) : (pushSample n x s).ports[n].state = s.ports[n].state := by
  unfold pushSample
  split
  · have hport := congrArg HeadPort.state (vget_set_self s.ports n (portAfterPush x s.ports[n]))
    exact hport
  · rw [setCause_port_state, setPort_ports, vget_set_self]

/-- A port that is not OFF once a frame's head state is set (R2), and the causes of its sample before the push (R9). -/
theorem headStatus_moves {n : Head} {b : Bool} {s : State} (h : s.ports[n].state ≠ .off) :
    Moves s (if b = true then setCause n .headStatus s else s) ∧
      (if b = true then setCause n .headStatus s else s).ports[n].state ≠ .off := by
  split
  · exact ⟨setCause_moves .., by rwa [setCause_port_state]⟩
  · exact ⟨.refl, h⟩

/-- The port of a head once a valid frame's head state, marks and anchor are set (R2, R6, R7). -/
def framePort (n : Head) (f : HeadFrame) (s : State) : HeadPort :=
  let p := portAfterFrame (now s) s.settings.heads[n].silence f s.ports[n]
  { p with anchor := some (anchorAfter (now s) s.settings.heads[n].latency f p.anchor) }

/-- The sample that a valid frame decodes to (section 1.5). -/
def frameSample (n : Head) (f : HeadFrame) (s : State) : Sample :=
  let p := portAfterFrame (now s) s.settings.heads[n].silence f s.ports[n]
  decodedSample n f (framePort n f s) (anchorAfter (now s) s.settings.heads[n].latency f p.anchor) (s.clock.state == .unset)

theorem acceptFrame_eq (n : Head) (f : HeadFrame) (s : State) : acceptFrame n f s =
    grant (pushSample n (frameSample n f s)
      (if (frameSample n f s).headStatus = true then setCause n .headStatus (setPort n (framePort n f s) s)
        else setPort n (framePort n f s) s)) := rfl

/-- A valid frame at a port that is not OFF; it leaves the port LIVE (R2). -/
theorem acceptFrame_moves {n : Head} {s : State} (h : s.ports[n].state ≠ .off) (f : HeadFrame) :
    Moves s (acceptFrame n f s) ∧ (acceptFrame n f s).ports[n].state ≠ .off := by
  have hlive : (framePort n f s).state ≠ .off := HeadState.noConfusion
  have hport : Alike s (setPort n (framePort n f s) s) :=
    setPort_alike n (framePort n f s) s ⟨fun h' => absurd h' hlive, fun h' => absurd h' h⟩ id id id
  obtain ⟨hcause, hoff⟩ := headStatus_moves (n := n) (b := (frameSample n f s).headStatus) (s := setPort n (framePort n f s) s)
    (by rwa [setPort_ports, vget_set_self])
  rw [acceptFrame_eq]
  refine ⟨((hport.moves.trans hcause).trans (pushSample_moves hoff _)).trans (grant_moves _), ?_⟩
  rwa [grant_ports, pushSample_port_state]

/-- The end of a run of discarded bytes is counted (R1). -/
theorem closeRun_moves {n : Head} {s : State} (h : s.ports[n].state ≠ .off) :
    Moves s (if s.ports[n].rx.junk = true then linkError n (setReceiver n { s.ports[n].rx with junk := false } s) else s) ∧
      (if s.ports[n].rx.junk = true then linkError n (setReceiver n { s.ports[n].rx with junk := false } s)
        else s).ports[n].state ≠ .off := by
  split
  · exact ⟨(setReceiver_alike ..).moves.trans (linkError_moves ..), by rwa [linkError_port_state, setReceiver_port_state]⟩
  · exact ⟨.refl, h⟩

theorem huntFrames_moves {n : Head} (k : Nat) {s : State} (h : s.ports[n].state ≠ .off) : Moves s (huntFrames n k s) := by
  induction k generalizing s with
  | zero => exact .refl
  | succ k ih =>
    unfold huntFrames
    dsimp only
    split
    · exact .refl
    · rename_i b rest _
      split
      · exact (setReceiver_alike ..).moves.trans (ih (by rwa [setReceiver_port_state]))
      · obtain ⟨hm, hs1⟩ := closeRun_moves h
        generalize (if s.ports[n].rx.junk = true then linkError n (setReceiver n { s.ports[n].rx with junk := false } s)
          else s) = s1 at hm hs1 ⊢
        have hreceived (r : Receiver) : (setReceiver n r s1).ports[n].state ≠ .off := by rwa [setReceiver_port_state]
        split
        · exact hm
        · split
          · obtain ⟨ha, hs2⟩ := acceptFrame_moves (hreceived _) (decodeHeadFrame _)
            exact ((hm.trans (setReceiver_alike ..).moves).trans ha).trans (ih hs2)
          · refine ((hm.trans (setReceiver_alike ..).moves).trans (linkError_moves ..)).trans (ih ?_)
            rw [linkError_port_state]
            exact hreceived _

theorem headBytes_moves (n : Head) (bytes : List Byte) (s : State) : Moves s (headBytes n bytes s) := by
  unfold headBytes
  dsimp only
  split
  · exact .refl
  · rename_i hoff
    exact (setReceiver_alike ..).moves.trans (huntFrames_moves _ (by rwa [setReceiver_port_state]))

theorem silenceExpires_moves (n : Head) (s : State) : Moves s (silenceExpires n s) := by
  unfold silenceExpires
  dsimp only
  split
  · rename_i hd
    have hoff : s.ports[n].state ≠ .off := fun h => by
      unfold silenceDue at hd
      rw [h] at hd
      simp at hd
    exact (setPort_alike n { s.ports[n] with state := .silent } s ⟨fun h => by simp at h, fun h => absurd h hoff⟩ id id
      id).moves.trans (setCause_moves ..)
  · exact .refl

/-! ## The completion of a correction (R37) -/

theorem countDisposition_accepted (d : Disposition) (r : SampleRecord) (a : Accumulators) :
    (countDisposition d r a).accepted = if d = .accepted then a.accepted + 1 else a.accepted := by
  have hgap (b : Accumulators) : (countGap r b).accepted = b.accepted := by unfold countGap; split <;> rfl
  unfold countDisposition
  split <;> simp [hgap, accumulate]

theorem not_isComplete_of_dispositionOf {c : Context} {r : SampleRecord} {rate : Int} (h : dispositionOf c r rate = .accepted) :
    ¬ IsComplete c := by
  rintro ⟨w, hw⟩
  unfold dispositionOf at h
  rw [hw] at h
  split at h <;> simp at h

theorem setActive_setActive (n : Head) (a b : Option Context) (s : State) : setActive n a (setActive n b s) = setActive n a s := by
  simp [setActive]

/-- What stood in the slot before a completion is forgotten. -/
theorem complete_setActive (n : Head) (c : Context) (r : CompletionReason) (o : Option Context) (s : State) :
    complete n c r (setActive n o s) = complete n c r s := by
  have henter : enterComplete n c r (setActive n o s) = enterComplete n c r s := by
    unfold enterComplete
    simp only [setActive_setActive]
    rfl
  rw [complete, henter, complete]

theorem disposeIn_moves {n : Head} {r : SampleRecord} {s : State}
    (h : ∀ c, s.occ.active[n] = some c → r.disposition = .accepted → ¬ IsComplete c) : Moves s (disposeIn n r s) := by
  unfold disposeIn
  split
  · exact .refl
  · rename_i c hc
    dsimp only
    have hacc : (afterDisposition r.disposition r c).acc.accepted = _ := countDisposition_accepted r.disposition r c.acc
    split
    · rename_i hfull
      rw [complete_setActive]
      rw [if_pos hfull.1] at hacc
      exact complete_moves hc {} (h c hc hfull.1) (.inr hacc) .target
    · rename_i hshort
      refine (OccMove.touch n (d := afterDisposition r.disposition r c) hc ?_ Iff.rfl).moves
      by_cases ha : r.disposition = .accepted
      · rw [if_pos ha] at hacc
        exact {
          parked := id
          complete := fun hc' => absurd hc' (h c hc ha)
          accepted := .inr ⟨h c hc ha, hacc, fun _ => Nat.lt_of_not_le fun hge => hshort ⟨ha, hge⟩⟩ }
      · rw [if_neg ha] at hacc
        exact .of_state_eq {} rfl hacc

theorem disposed_head (o : Option Context) (r : SampleRecord) (rate : Int) : (disposed o r rate).head = r.head := by
  cases o <;> rfl

theorem rebound_head (k : Binding) (o : Option Context) (r : SampleRecord) : (rebound k o r).head = r.head := by
  unfold rebound
  split
  · rfl
  · rfl
  · rfl
  · split <;> rfl

theorem archiveRecord_moves {r : SampleRecord} {s : State} (hf : s.corr.inFlight.isSome = true) :
    Moves s (archiveRecord { r with seq := s.archive.rings[r.head].counter } s) := by
  unfold archiveRecord
  dsimp only
  split
  · exact .refl
  · rename_i hcap
    have happend := (Move.append r.head r rfl hcap hf).moves
    split
    · exact happend
    · exact happend.trans (overwritten_alike ..).moves

/-! A correction in flight stays in flight, bound or not, while its record is handed on. -/

theorem unbindTag_inFlight (tag : Nat) (s : State) : (unbindTag tag s).corr.inFlight.isSome = s.corr.inFlight.isSome := by
  unfold unbindTag
  split
  · rfl
  · rename_i k hk
    split <;> simp [hk]

theorem freeActive_inFlight (n : Head) (c : Context) (s : State) :
    (freeActive n c s).corr.inFlight.isSome = s.corr.inFlight.isSome := by
  obtain ⟨g, hg⟩ := leaveList_frame c s
  have h := unbindTag_inFlight c.tag (dropStation c.station (leaveList c s))
  rw [hg] at h
  simpa [freeActive, hg, dropStation, setTable] using h

theorem joinReading_inFlight (s : State) : (joinReading s).corr.inFlight.isSome = s.corr.inFlight.isSome := by
  unfold joinReading
  split
  · rfl
  · split
    · split
      · rfl
      · split
        · rfl
        · rw [freeActive_inFlight, join_corr]
    · rfl

theorem complete_inFlight (n : Head) (c : Context) (r : CompletionReason) (s : State) :
    (complete n c r s).corr.inFlight.isSome = s.corr.inFlight.isSome := by
  unfold complete offerReadings
  simp only [joinReading_inFlight]
  unfold enterComplete
  obtain ⟨g, hg⟩ := leaveList_frame c
    (setActive n (some { c with state := .complete r, acc := { leaveState (now s) c with completion := some (now s) } }) s)
  simp only [hg, setActive_corr]

theorem disposeIn_inFlight (n : Head) (r : SampleRecord) (s : State) :
    (disposeIn n r s).corr.inFlight.isSome = s.corr.inFlight.isSome := by
  unfold disposeIn
  split
  · rfl
  · dsimp only
    split
    · rw [complete_inFlight, setActive_corr]
    · rfl

theorem setCause_corr (n : Head) (f : FaultCause) (s : State) : (setCause n f s).corr = s.corr := by
  obtain ⟨o, e, oc, j, p, h⟩ := setCause_frame n f s
  rw [h]

theorem handOn_moves {n : Head} {r : SampleRecord} {rate : Int} {lag : Option LagState} {s : State} (hn : r.head = n)
    (hf : s.corr.inFlight.isSome = true) : Moves s (handOn n r rate lag s) := by
  have haccepts (c : Context) (hc : s.occ.active[n] = some c)
      (hd : (disposed s.occ.active[n] r rate).disposition = .accepted) : ¬ IsComplete c := by
    rw [hc] at hd
    exact not_isComplete_of_dispositionOf hd
  have hhead := disposed_head s.occ.active[n] r rate
  unfold handOn
  dsimp only
  generalize disposed s.occ.active[n] r rate = d at haccepts hhead
  have hn' : d.head = n := hhead.trans hn
  have h3 : Moves s (setLag n lag (disposeIn n d s)) := (disposeIn_moves haccepts).trans (setLag_alike ..).moves
  have hf3 : (setLag n lag (disposeIn n d s)).corr.inFlight.isSome = true := by rw [setLag_corr, disposeIn_inFlight, hf]
  generalize setLag n lag (disposeIn n d s) = s3 at h3 hf3
  have h4 : Moves s3 (if d.calibrated.isNone = true then setCause n .calRange s3 else s3) ∧
      (if d.calibrated.isNone = true then setCause n .calRange s3 else s3).corr.inFlight.isSome = true := by
    split
    · exact ⟨setCause_moves .., by rwa [setCause_corr]⟩
    · exact ⟨.refl, hf3⟩
  obtain ⟨h4, hf4⟩ := h4
  generalize (if d.calibrated.isNone = true then setCause n .calRange s3 else s3) = s4 at h4 hf4
  subst hn'
  exact ((h3.trans h4).trans (archiveRecord_moves hf4)).trans (streamRecord_alike ..).moves

theorem finishCorrection_moves {k : Correction} {s : State} (hf : s.corr.inFlight = some k) : Moves s (finishCorrection k s) := by
  have hhand := handOn_moves (n := k.sample.head) (r := rebound k.bound s.occ.active[k.sample.head] (correct k).record)
    (rate := (correct k).rate) (lag := (correct k).lag) (s := s) (by rw [rebound_head]; rfl) (by simp [hf])
  unfold finishCorrection
  dsimp only
  generalize handOn k.sample.head _ _ _ s = t at hhand
  have hend : Alike t { t with corr := { t.corr with inFlight := none } } := { idle := fun _ => rfl }
  exact (hhand.trans hend.moves).trans (grant_moves _)

/-! ## The event unit's lines, the clock and the load -/

theorem setRearm_alike (i : Fin 4) (b : Bool) (s : State) : Alike s (setRearm i b s) := {}

theorem enterMode_alike (i : Fin 4) (s : State) : Alike s (enterMode i s) := by
  unfold enterMode
  dsimp only
  split
  · split
    · exact (setRearm_alike ..).trans (raise_alike ..)
    · exact setRearm_alike ..
  · exact setRearm_alike ..

theorem lineRequest_alike (i : Fin 4) (level : Bool) (s : State) : Alike s (lineRequest i level s) := by
  have hrearmed : Alike s (if inSet s.events.rearm i.val = true then raise (lineSource i) (setRearm i false s) else s) := by
    split
    · exact (setRearm_alike ..).trans (raise_alike ..)
    · exact .refl s
  unfold lineRequest
  split
  · exact .refl s
  · exact .refl s
  · split
    · exact raise_alike ..
    · exact .refl s
  · split
    · exact .refl s
    · exact raise_alike ..
  · split
    · exact hrearmed
    · exact setRearm_alike ..
  · split
    · exact setRearm_alike ..
    · exact hrearmed

theorem setLine_alike (i : Fin 4) (level : Bool) (s : State) : Alike s (setLine i level s) := {}

theorem lineChange_alike (i : Fin 4) (level : Bool) (s : State) : Alike s (lineChange i level s) := by
  unfold lineChange
  dsimp only
  split
  · exact .refl s
  · split
    · exact (setLine_alike ..).trans (lineRequest_alike ..)
    · exact setLine_alike ..

theorem setClock_alike (c : Clock) (s : State) : Alike s (setClock c s) := {}

theorem snapClock_moves (second : Nat) (s : State) : Moves s (snapClock second s) := by
  unfold snapClock
  dsimp only
  refine Relation.ReflTransGen.trans ?_ ((Move.clockStep _).moves.trans (pageStep_moves _))
  split
  · exact (((setClock_alike ..).trans (offerNotice_alike ..)).trans (raise_alike ..)).moves
  · exact (setClock_alike ..).moves

theorem markOff_alike (s : State) : Alike s (markOff s) := by
  unfold markOff
  split
  · exact (setClock_alike ..).trans (offerNotice_alike ..)
  · exact .refl s
  · exact .refl s

theorem takeMark_moves (s : State) : Moves s (takeMark s) := by
  unfold takeMark
  split
  · split
    · exact snapClock_moves ..
    · exact (markOff_alike s).moves
  · exact .refl

theorem finishLoad_moves {s : State} (h : s.sys.part = .starting) : Moves s (finishLoad s) := by
  have hmodes (l : List (Fin 4)) (t : State) : Alike t (l.foldl (fun u i => enterMode i u) t) := by
    induction l generalizing t with
    | nil => exact .refl t
    | cons i l ih => exact (enterMode_alike i t).trans (ih _)
  exact (((Move.load h).moves.trans (offerNotice_alike ..).moves).trans (hmodes ..).moves).trans (drain_moves _)

/-! ## Steps that are no frames -/

theorem limitEnds_moves {n : Head} {s : State} (h : due (now s) (limitTimer s n) = true) : Moves s (limitEnds n s) := by
  unfold limitEnds
  split
  · exact .refl
  · rename_i c hc
    have hn : ¬ IsComplete c := by
      rintro ⟨w, hw⟩
      simp [limitTimer, hc, limitExpiryOf, hw, due] at h
    exact complete_moves hc (.refl c) hn (.inl rfl) .timeLimit

/-- A step that does something when it is due, and then lets the event unit latch. -/
theorem moves_of_due {b : Bool} {s t u : State} (hm : b = true → Moves s t)
    (h : (Host.Outcome.next (if b = true then latchNext t else s) : Host.Outcome State Fault Refusal) = .next u) : Moves s u := by
  obtain rfl := Host.Outcome.next.inj h
  split
  · rename_i hb
    exact (hm hb).trans (latchNext_alike t).moves
  · exact .refl

theorem moves_of_latched {s t u : State} (hm : Moves s t)
    (h : (Host.Outcome.next (latchNext t) : Host.Outcome State Fault Refusal) = .next u) : Moves s u := by
  obtain rfl := Host.Outcome.next.inj h
  exact hm.trans (latchNext_alike t).moves

theorem eventMeaning_moves {i : Instr} {s u : State} (h : eventMeaning i s = .next u) : Moves s u := by
  cases i
  case headFrame n bytes => exact moves_of_latched (headBytes_moves ..) h
  case silenceExpiry n => exact moves_of_latched (silenceExpires_moves ..) h
  case correctionComplete =>
    change execCorrectionComplete s = _ at h
    unfold execCorrectionComplete at h
    split at h
    · obtain rfl := Host.Outcome.next.inj h
      exact .refl
    · rename_i k hk
      exact moves_of_latched (finishCorrection_moves hk) h
  case flushExpiry n => exact moves_of_due (fun _ => (offerBatch_alike ..).moves) h
  case settleExpiry n => exact moves_of_due (fun _ => settleEnds_moves ..) h
  case gatheringExpiry g => exact moves_of_due (fun _ => gatheringEnds_moves ..) h
  case limitExpiry n => exact moves_of_due (fun hd => limitEnds_moves hd) h
  case readingJoin => exact moves_of_latched (joinReading_moves _) h
  case timeMark => exact moves_of_latched (takeMark_moves _) h
  case lossExpiry => exact moves_of_due (fun _ => ((setClock_alike ..).trans (offerNotice_alike ..)).moves) h
  case pageRetirement k => exact moves_of_due (fun _ => (retireEnded_moves ..).trans (evalTide_alike _).moves) h
  case spanStart => exact moves_of_due (fun _ => (evalTide_alike _).moves) h
  case eventLineChange line level => exact moves_of_latched (lineChange_alike ..).moves h
  case eventDispatch => exact moves_of_latched ((latchNext_alike _).moves.trans (dispatchLatched_moves _)) h
  case linkReady level =>
    obtain rfl := Host.Outcome.next.inj h
    obtain ⟨hn, hd⟩ := beginTransmission_counts level s.out
    have hready : Alike s (putLinkReady level s) :=
      { queue := fun hq => by simpa [putLinkReady, beginTransmission_queue] using hq
        noticesLost := fun hl => by simpa [putLinkReady, hn] using hl
        samplesDropped := fun hl => by simpa [putLinkReady, hd] using hl }
    exact hready.moves
  case dumpBlock => exact moves_of_due (fun _ => (produceBlock_alike _).moves) h
  case loadComplete =>
    obtain rfl := Host.Outcome.next.inj h
    split
    · exact finishLoad_moves ‹_›
    · exact .refl
  case saveComplete written =>
    change execSaveComplete written s = _ at h
    unfold execSaveComplete at h
    split at h
    · obtain rfl := Host.Outcome.next.inj h
      exact .refl
    · rename_i copy _
      have hsaved : Alike s { s with sys := { s.sys with saving := none, image := writtenImage copy written } } := {}
      exact moves_of_latched (hsaved.trans (offerNotice_alike ..)).moves h
  all_goals
    obtain rfl := Host.Outcome.next.inj h
    exact .refl

theorem afterEvent_moves (i : Instr) (s : State) : Moves s (afterEvent i s) := by
  unfold afterEvent
  split
  · rename_i h
    exact eventMeaning_moves h
  · exact .refl
  · exact .refl

end Sys2Proof.Machine
end

section
/-! PROOFS. The commands as chains of moves, and with them every step. -/

namespace Sys2Proof.Machine

-- One theorem at a time: side by side, the proofs ask for more threads than the check's memory limit has stacks for.
set_option Elab.async false

/-! ## What a search finds -/

/-- The context that stands at a place. -/
def contextAt (o : Occupations) : Place → Option Context
  | .active n => o.active[n]
  | .stored k => o.store[k]

theorem mem_heads (n : Head) : n ∈ heads := by revert n; decide

theorem mem_storeSlots (k : StoreSlotId) : k ∈ storeSlots := by revert k; decide

theorem mem_pageSlots (k : PageSlotId) : k ∈ pageSlots := by revert k; decide

theorem mem_activeContexts {o : Occupations} {x : Head × Context} : x ∈ activeContexts o ↔ o.active[x.1] = some x.2 := by
  obtain ⟨n, c⟩ := x
  simp only [activeContexts, List.mem_filterMap, Option.map_eq_some_iff, Prod.mk.injEq]
  constructor
  · rintro ⟨m, -, d, hd, rfl, rfl⟩
    exact hd
  · exact fun h => ⟨n, mem_heads n, c, h, rfl, rfl⟩

theorem mem_parkedContexts {o : Occupations} {x : StoreSlotId × Context} : x ∈ parkedContexts o ↔ o.store[x.1] = some x.2 := by
  obtain ⟨k, c⟩ := x
  simp only [parkedContexts, List.mem_filterMap, Option.map_eq_some_iff, Prod.mk.injEq]
  constructor
  · rintro ⟨m, -, d, hd, rfl, rfl⟩
    exact hd
  · exact fun h => ⟨k, mem_storeSlots k, c, h, rfl, rfl⟩

theorem mem_liveContexts {o : Occupations} {x : Place × Context} : x ∈ liveContexts o ↔ contextAt o x.1 = some x.2 := by
  obtain ⟨p, c⟩ := x
  cases p with
  | active n => simp [liveContexts, contextAt, mem_activeContexts]
  | stored k => simp [liveContexts, contextAt, mem_parkedContexts]

theorem findTag_some {o : Occupations} {tag : Nat} {x : Place × Context} (h : findTag o tag = some x) :
    contextAt o x.1 = some x.2 ∧ x.2.tag = tag :=
  ⟨mem_liveContexts.mp (List.mem_of_find?_eq_some h), by simpa using List.find?_some h⟩

theorem findTag_active {o : Occupations} {tag : Nat} {n : Head} {c : Context} (h : findTag o tag = some (.active n, c)) :
    o.active[n] = some c := (findTag_some h).1

theorem findTag_stored {o : Occupations} {tag : Nat} {k : StoreSlotId} {c : Context} (h : findTag o tag = some (.stored k, c)) :
    o.store[k] = some c := (findTag_some h).1

theorem findTag_none {o : Occupations} {tag : Nat} (h : findTag o tag = none) : ∀ x ∈ liveContexts o, x.2.tag ≠ tag := by
  simpa [findTag] using h

theorem emptyStoreSlot_some {o : Occupations} {k : StoreSlotId} (h : emptyStoreSlot o = some k) : o.store[k] = none := by
  simpa only [Option.isNone_iff_eq_none] using List.find?_some h

theorem findPage_some {s : State} {number : Nat} {k : PageSlotId} {p : Page} (h : findPage s number = some (k, p)) :
    slotPage s.pages.slots[k] = some p ∧ p.number = number := by
  have hmem := List.mem_of_find?_eq_some h
  have hnum := List.find?_some h
  simp only [List.mem_filterMap, Option.map_eq_some_iff, Prod.mk.injEq] at hmem
  obtain ⟨j, -, q, hq, rfl, rfl⟩ := hmem
  exact ⟨hq, by simpa using hnum⟩

theorem findPage_none {s : State} {number : Nat} (h : findPage s number = none) (j : PageSlotId) (q : Page)
    (hq : slotPage s.pages.slots[j] = some q) : q.number ≠ number := by
  simp only [findPage, List.find?_eq_none, List.mem_filterMap, Option.map_eq_some_iff] at h
  simpa using h (j, q) ⟨j, mem_pageSlots j, q, hq, rfl⟩

theorem emptySlot_some {s : State} {k : PageSlotId} (h : emptySlot s = some k) : slotPage s.pages.slots[k] = none := by
  simpa only [Option.isNone_iff_eq_none] using List.find?_some h

/-- A slot that holds a page and is not READY is FILLING. -/
theorem filling_of_not_ready {s : State} {k : PageSlotId} {p : Page} (h : slotPage s.pages.slots[k] = some p)
    (hr : slotReady s k = false) : s.pages.slots[k] = .filling p := by
  unfold slotReady at hr
  cases hs : s.pages.slots[k] <;> simp_all [slotPage, readyPage]

/-- A page overlaps no READY page (R48). -/
theorem overlapsReady_eq_false {s : State} {p : Page} (h : overlapsReady s p = false) (j : PageSlotId) (q : Page)
    (hq : s.pages.slots[j] = .ready q) : pagesOverlap p q = false := by
  have hmem : q ∈ s.pages.slots.toList.filterMap readyPage := by
    refine List.mem_filterMap.mpr ⟨.ready q, ?_, rfl⟩
    rw [← hq]
    exact List.mem_iff_getElem.mpr ⟨j.val, by simp, by simp⟩
  exact Bool.eq_false_iff.mpr (List.any_eq_false.mp h q hmem)

/-! ## Grounds passed -/

/-- A ground that is passed, and the grounds after it. -/
theorem passes_iff {p : Prop} [Decidable p] {st : Status} {x : Option Status} :
    (if p then some st else x) = none ↔ ¬ p ∧ x = none := by
  split <;> simp [*]

/-- A last ground, stated by what passes it. -/
theorem passes_last_iff {p : Prop} [Decidable p] {st : Status} : (if p then none else some st) = none ↔ p := by
  split <;> simp [*]

/-! ## Commands that leave the laws' things alone -/

/-- A command that passes its grounds in a READY part and is a chain of moves then, is one in all cases. -/
theorem command_moves {α : Type} {k : Kind} {h : Header} {b : Body α} {ground : α → State → Option Status} {act : α → State → State}
    {s : State} (hk : k ≠ .status) (ha : ∀ a, s.sys.part = .ready → ground a s = none → Moves s (act a s)) :
    Moves s (command k h b ground act s) := by
  unfold command
  split
  · exact (reply_alike ..).moves
  · rename_i hstart
    split
    · exact (reply_alike ..).moves
    · split
      · exact (reply_alike ..).moves
      · rename_i a
        split
        · exact (reply_alike ..).moves
        · rename_i hg
          refine ha a ?_ hg
          cases hp : s.sys.part with
          | ready => rfl
          | starting => exact absurd ⟨hp, hk⟩ hstart

theorem clearCounts_alike (s : State) : Alike s (clearCounts s) where
  noticesLost _ := Nat.zero_le _
  samplesDropped _ := Nat.zero_le _
  framesDropped _ := Nat.zero_le _
  overflows _ := Nat.zero_le _
  off n := by simp only [clearCounts, vget_vmap]
  linkErrors n _ := by simp only [clearCounts, vget_vmap, Nat.zero_le]
  overruns n _ := by simp only [clearCounts, vget_vmap, Nat.zero_le]
  gaps n _ := by simp only [clearCounts, vget_vmap, Nat.zero_le]

theorem handleStatus_moves (h : Header) (b : Body Bool) (s : State) : Moves s (handleStatus h b s) := by
  have hact (a : Bool) : Moves s (actStatus h a s) := by
    unfold actStatus
    dsimp only
    split
    · exact ((done_alike ..).trans (clearCounts_alike _)).moves
    · exact (done_alike ..).moves
  unfold handleStatus command
  split
  · exact (reply_alike ..).moves
  · split
    · exact (reply_alike ..).moves
    · split
      · exact (reply_alike ..).moves
      · exact hact _

/-- Settings other than the plan and the targets of the groups are nothing that a law speaks of. -/
theorem setSettings_alike {t : Settings} {s : State} (hp : t.plan = s.settings.plan) (hg : t.groups = s.settings.groups) :
    Alike s { s with settings := t } := { plan := hp, targets := hg }

theorem actSenderSet_moves (h : Header) (p : SenderSetParams) (s : State) : Moves s (actSenderSet h p s) := by
  have hkeep : (putSender p s.settings).plan = s.settings.plan ∧ (putSender p s.settings).groups = s.settings.groups := by
    unfold putSender
    split <;> exact ⟨rfl, rfl⟩
  exact ((setSettings_alike hkeep.1 hkeep.2).trans (done_alike ..)).moves

theorem actSave_moves (h : Header) (u : Unit) (s : State) : Moves s (actSave h u s) := by
  have hbegin : Alike s (beginSave s) := {}
  exact (hbegin.trans (reply_alike ..)).moves

theorem actRestart_moves (h : Header) (u : Unit) (s : State) : Moves s (actRestart h u s) := by
  have hpend (t : State) : Alike t { t with sys := { t.sys with restartPending := true } } := {}
  exact ((done_alike ..).trans (hpend _)).moves

theorem actArbSet_moves (h : Header) (p : ArbSetParams) (s : State) : Moves s (actArbSet h p s) := by
  have hset : Alike s { s with
    settings := { s.settings with arbMode := p.mode, arbLimit := p.limit }, corr := { s.corr with service := 0 } } := {}
  exact (hset.trans (done_alike ..)).moves

theorem actFaultClear_moves (h : Header) (p : FaultClearParams) (s : State) : Moves s (actFaultClear h p s) := by
  unfold actFaultClear
  split
  · exact .refl
  · rename_i n _
    exact ((setPort_alike n { s.ports[n] with status := s.ports[n].status &&& ~~~p.causes } s Iff.rfl id id id).trans
      (done_alike ..)).moves

theorem applyEntry_alike (s : State) (e : EvtEntry) : Alike s (applyEntry s e) := by
  unfold applyEntry
  split
  · exact .refl s
  · rename_i i _
    have hset : Alike s { s with
      settings := { s.settings with
        sources := s.settings.sources.set i { mode := e.mode, masked := e.masked, notify := e.notify } } } := {}
    dsimp only
    split
    · exact hset
    · split
      · exact hset
      · exact hset.trans (enterMode_alike ..)

theorem actEvtSetup_moves (h : Header) (l : List EvtEntry) (s : State) : Moves s (actEvtSetup h l s) := by
  have hfold (l : List EvtEntry) (t : State) : Alike t (l.foldl applyEntry t) := by
    induction l generalizing t with
    | nil => exact .refl t
    | cons e l ih => exact (applyEntry_alike t e).trans (ih _)
  exact ((hfold l s).trans (done_alike ..)).moves

theorem actEvtClear_moves (h : Header) (l : BitVec 8) (s : State) : Moves s (actEvtClear h l s) :=
  ((setEvents_alike { s.events with pending := s.events.pending &&& ~~~l } s).trans (done_alike ..)).moves

theorem putMarks_alike (high low : Nat) (s : State) : Alike s (putMarks high low s) := by
  have hset : Alike s { s with settings := { s.settings with high := high, low := low } } := {}
  have hflag (b : Bool) (t : State) : Alike t { t with out := { t.out with congested := b } } := {}
  unfold putMarks
  dsimp only
  split
  · exact (hset.trans (hflag true _)).trans (raise_alike ..)
  · split
    · exact hset.trans (hflag false _)
    · exact hset

theorem actQueueMarks_moves (h : Header) (p : Option (Nat × Nat)) (s : State) : Moves s (actQueueMarks h p s) := by
  have hmarks : Alike s (storeMarks p s) := by
    unfold storeMarks
    split
    · exact .refl s
    · exact putMarks_alike ..
  exact (hmarks.trans (done_alike ..)).moves

theorem actStreamSelect_moves (h : Header) (p : StreamSelectParams) (s : State) : Moves s (actStreamSelect h p s) := by
  unfold actStreamSelect
  split
  · exact .refl
  · rename_i k _
    have hset (l : Vector Selector 4) : Alike s { s with settings := { s.settings with selectors := l } } := {}
    exact ((hset _).trans (done_alike ..)).moves

theorem actStreamBatch_moves (h : Header) (p : Option (Nat × Nat)) (s : State) : Moves s (actStreamBatch h p s) := by
  have hstore : Alike s (storeBatching p s) := by
    unfold storeBatching
    split
    · exact .refl s
    · exact {}
  have hfold (d : Int) (l : List Head) (t : State) : Alike t (l.foldl (rebatch d) t) := by
    induction l generalizing t with
    | nil => exact .refl t
    | cons n l ih => exact (rebatch_alike d t n).trans (ih _)
  unfold actStreamBatch
  dsimp only
  split
  · exact ((hstore.trans (done_alike ..)).trans (hfold ..)).moves
  · exact (hstore.trans (done_alike ..)).moves

theorem setStaged_alike (n : Head) (r : Option CalRecord) (s : State) : Alike s (setStaged n r s) := {}

theorem actCalStage_moves (h : Header) (p : CalStageParams) (s : State) : Moves s (actCalStage h p s) := by
  unfold actCalStage
  split
  · exact .refl
  · exact ((setStaged_alike ..).trans (done_alike ..)).moves

theorem actCalDiscard_moves (h : Header) (n : Nat) (s : State) : Moves s (actCalDiscard h n s) := by
  unfold actCalDiscard
  split
  · exact .refl
  · exact ((setStaged_alike ..).trans (done_alike ..)).moves

theorem actCalRead_moves (h : Header) (p : CalReadParams) (s : State) : Moves s (actCalRead h p s) := by
  unfold actCalRead
  split
  · exact .refl
  · exact (done_alike ..).moves

theorem staleByCommit_moves (n : Head) (v : Nat) (s : State) : Moves s (staleByCommit n v s) := by
  unfold staleByCommit
  split
  · exact .refl
  · rename_i c hc
    split
    · rename_i hh
      exact (OccMove.enter hc (afoot_of_isHeld hh) (afoot_stale c) {} rfl).moves.trans (offerNotice_alike ..).moves
    · exact .refl

theorem actCalCommit_moves (h : Header) (n : Nat) (s : State) : Moves s (actCalCommit h n s) := by
  have hset (n : Head) (c : Committed) : Alike s (setCommitted n c s) := {}
  unfold actCalCommit
  split
  · exact .refl
  · split
    · exact .refl
    · exact (((hset ..).trans (setStaged_alike ..)).trans (done_alike ..)).moves.trans (staleByCommit_moves ..)

theorem actTideQuery_moves (h : Header) (p : TideQueryParams) (s : State) : Moves s (actTideQuery h p s) := by
  unfold actTideQuery
  split
  · exact (done_alike ..).moves
  · exact .refl
  · exact .refl

theorem actStnGet_moves (h : Header) (n : Nat) (s : State) : Moves s (actStnGet h n s) := by
  unfold actStnGet
  split
  · exact .refl
  · exact (done_alike ..).moves

theorem actDumpStart_moves (h : Header) (p : DumpStartParams) (s : State) : Moves s (actDumpStart h p s) := by
  unfold actDumpStart
  split
  · exact .refl
  · exact (((setDump_alike ..).trans (reply_alike ..)).trans (endIfCovered_alike _)).moves

/-! ## Commands that move something -/

theorem actHeadSetup_moves {s : State} (hr : s.sys.part = .ready) (h : Header) (p : HeadSetupParams) :
    Moves s (actHeadSetup h p s) := by
  unfold actHeadSetup
  split
  · exact .refl
  · exact ((Move.setupHead _ p hr).moves.trans (done_alike ..).moves).trans (silenceExpires_moves ..)

theorem actSetPlan_moves {n : Nat} {s : State} (hr : s.sys.part = .ready) (hg : groundSetPlan n s = none) (h : Header) :
    Moves s (actSetPlan h n s) := by
  simp only [groundSetPlan, passes_iff] at hg
  obtain ⟨-, -, -, -, hwaits, -⟩ := hg
  unfold actSetPlan
  split
  · exact .refl
  · refine (Move.plan _ hr fun m => ?_).moves.trans (done_alike ..).moves
    have hm : waitsForGrant s m ≠ true := fun h => hwaits (List.any_eq_true.mpr ⟨m, mem_heads m, h⟩)
    simpa only [waitsForGrant, ne_eq, Bool.not_eq_true', Bool.not_eq_false, List.isEmpty_iff] using hm

theorem actGroupSet_moves {p : GroupSetParams} {s : State} (hg : groundGroupSet p s = none) (h : Header) :
    Moves s (actGroupSet h p s) := by
  obtain ⟨g, set⟩ := p
  unfold actGroupSet
  dsimp only
  refine Relation.ReflTransGen.trans ?_ (done_alike ..).moves
  cases set with
  | none => exact .refl
  | some x =>
    obtain ⟨target, wait⟩ := x
    simp only [groundGroupSet, passes_iff, Bool.not_eq_false, not_not] at hg
    obtain ⟨hok, harr, -⟩ := hg
    exact (Move.groupSet g target wait hok harr).moves

theorem actSetTime_moves (h : Header) (t : Nat) (s : State) : Moves s (actSetTime h t s) :=
  ((((setClock_alike ..).trans (done_alike ..)).trans (offerNotice_alike ..)).moves.trans (Move.clockStep _).moves).trans
    (pageStep_moves _)

theorem actPageOpen_moves {p : PageOpenParams} {s : State} (hg : groundPageOpen p s = none) (h : Header) :
    Moves s (actPageOpen h p s) := by
  simp only [groundPageOpen, passes_iff, Option.not_isSome_iff_eq_none] at hg
  obtain ⟨-, hnew, -⟩ := hg
  unfold actPageOpen
  split
  · exact .refl
  · rename_i k hk
    exact (PageMove.openSlot k _ (emptySlot_some hk) (findPage_none hnew)).moves.trans (done_alike ..).moves

theorem actPageAdd_moves {p : PageAddParams} {s : State} (hg : groundPageAdd p s = none) (h : Header) :
    Moves s (actPageAdd h p s) := by
  unfold actPageAdd
  split
  · exact .refl
  · rename_i k q hq
    simp only [groundPageAdd, hq, passes_iff, Bool.not_eq_true] at hg
    obtain ⟨-, hready, -⟩ := hg
    obtain ⟨hslot, -⟩ := findPage_some hq
    exact (PageMove.fill k q { q with terms := q.terms ++ p.terms } (filling_of_not_ready hslot hready) rfl).moves.trans
      (done_alike ..).moves

theorem actPageCommit_moves {n : Nat} {s : State} (hg : groundPageCommit n s = none) (h : Header) :
    Moves s (actPageCommit h n s) := by
  unfold actPageCommit
  split
  · exact .refl
  · rename_i k p hp
    simp only [groundPageCommit, hp, passes_iff, Bool.not_eq_true] at hg
    obtain ⟨-, hready, -, hover, -⟩ := hg
    obtain ⟨hslot, -⟩ := findPage_some hp
    exact ((PageMove.commit k p (filling_of_not_ready hslot hready) (overlapsReady_eq_false hover)).moves.trans (done_alike ..).moves).trans
      (evalTide_alike _).moves

theorem actPageDrop_moves (h : Header) (n : Nat) (s : State) : Moves s (actPageDrop h n s) := by
  unfold actPageDrop
  split
  · exact .refl
  · rename_i k _ _
    have hdone := (PageMove.empty (v := s.pages.slots) k).moves.trans (done_alike h .pageDrop .none _).moves
    dsimp only
    split
    · exact hdone.trans (evalTide_alike _).moves
    · exact hdone

theorem actStnPut_moves {p : StnPutParams} {s : State} (hg : groundStnPut p s = none) (h : Header) : Moves s (actStnPut h p s) := by
  have hroom (hf : findStation s.table p.station = none) : hasRoom s.table p.station = true := by
    simp only [groundStnPut, hf, passes_iff, passes_last_iff] at hg
    exact hg.2
  exact (TableMove.put p hroom).moves.trans (done_alike ..).moves

theorem actStnDelete_moves {n : Nat} {s : State} (hg : groundStnDelete n s = none) (h : Header) : Moves s (actStnDelete h n s) := by
  cases hf : findStation s.table n with
  | none => simp [groundStnDelete, hf, passes_iff] at hg
  | some r =>
    simp only [groundStnDelete, hf, passes_iff, Nat.not_lt, Nat.le_zero] at hg
    obtain ⟨-, h0, -⟩ := hg
    exact (TableMove.delete hf h0).moves.trans (done_alike ..).moves

theorem actStnAge_moves (h : Header) (u : Unit) (s : State) : Moves s (actStnAge h u s) :=
  TableMove.age.moves.trans (done_alike ..).moves

/-! ## The occupation commands -/

theorem policyOk_target {p : Policy} (h : policyOk p = true) : 10 ≤ p.target := by
  simp only [policyOk, targetOk, between, Bool.and_eq_true, decide_eq_true_eq] at h
  obtain ⟨⟨⟨⟨⟨⟨⟨h, -⟩, -⟩, -⟩, -⟩, -⟩, -⟩, -⟩ := h
  exact h

theorem newContext_kept (n : Head) (p : OccOpenParams) (s : State) :
    (newContext n p s).tag = p.tag ∧ (newContext n p s).head = n ∧ (newContext n p s).station = p.station ∧
      (newContext n p s).policy = combine s.settings.policy p.items ∧ (newContext n p s).acc.accepted = 0 ∧
      Afoot (newContext n p s) := by
  unfold newContext
  cases p.entry with
  | settling => exact ⟨rfl, rfl, rfl, rfl, rfl, afoot_settled ..⟩
  | held => exact ⟨rfl, rfl, rfl, rfl, rfl, by simp [Afoot, IsComplete]⟩

theorem openStation_enrols {p : OccOpenParams} {t : StationTable} (hg : tableGround p t = none) (o : Occupations) :
    Enrols o p.station t (openStation p t) := by
  unfold tableGround at hg
  unfold openStation
  split at hg
  · simp at hg
  · rename_i x hf hx
    rw [hf, hx]
    exact .inr ⟨learnedRecord p.station x.1 x.2, hf, passes_last_iff.mp hg, rfl, rfl, rfl⟩
  · rename_i r hf hx
    rw [hf, hx]
    exact .inl ⟨.inl (by rw [hf]; rfl), rfl⟩
  · rename_i r x hf hx
    rw [hf, hx]
    exact .inl ⟨.inl (by rw [hf]; rfl), rfl⟩

/-- What an OCC_OPEN that passes its grounds has met (R80). -/
theorem groundOccOpen_none {p : OccOpenParams} {n : Head} {s : State} (hn : headOf p.head = some n) (hg : groundOccOpen p s = none) :
    policyOk (combine s.settings.policy p.items) = true ∧ findTag s.occ p.tag = none ∧ s.occ.active[n] = none ∧
      tableGround p s.table = none := by
  simp only [groundOccOpen, hn, passes_iff, Option.not_isSome_iff_eq_none, Bool.not_eq_false] at hg
  obtain ⟨hok, htag, -, hactive, htable⟩ := hg
  simp only [occOpenOk, Bool.and_eq_true] at hok
  obtain ⟨⟨-, hpolicy⟩, -⟩ := hok
  exact ⟨hpolicy, htag, hactive, htable⟩

theorem actOccOpen_moves {p : OccOpenParams} {s : State} (hr : s.sys.part = .ready) (hg : groundOccOpen p s = none) (h : Header) :
    Moves s (actOccOpen h p s) := by
  unfold actOccOpen
  split
  · exact .refl
  · rename_i n hn
    obtain ⟨hok, htag, hact, htab⟩ := groundOccOpen_none hn hg
    obtain ⟨hctag, hchead, hcstn, hcpol, hcacc, hcfoot⟩ := newContext_kept n p s
    have henrols := openStation_enrols htab s.occ
    have hopen : OccMove s (setActive n (some (newContext n p s)) (setTable (openStation p s.table) s)) :=
      .openContext n _ _ hr hact (hctag ▸ findTag_none htag) hchead hcfoot hcacc (.inl (hcpol ▸ policyOk_target hok))
        (hcstn ▸ henrols)
    exact (hopen.moves.trans (done_alike ..).moves).trans (passSettle_moves ..)

theorem actOccHold_moves {tag : Nat} {s : State} (hg : groundOccHold tag s = none) (h : Header) : Moves s (actOccHold h tag s) := by
  unfold actOccHold
  split
  · rename_i n c hf
    simp only [groundOccHold, hf, passes_iff, passes_last_iff] at hg
    obtain ⟨-, hgather⟩ := hg
    exact (enterHeld_moves (findTag_active hf) (not_isComplete_of_gathering hgather) (.refl c) rfl .command).trans
      (done_alike ..).moves
  · exact .refl
  · exact .refl

theorem actOccRelease_moves {tag : Nat} {s : State} (hg : groundOccRelease tag s = none) (h : Header) :
    Moves s (actOccRelease h tag s) := by
  unfold actOccRelease
  split
  · rename_i n c hf
    simp only [groundOccRelease, hf, passes_iff, passes_last_iff] at hg
    obtain ⟨-, -, hheld⟩ := hg
    exact (done_alike ..).moves.trans (releaseHeld_moves (by rw [done_occ]; exact findTag_active hf) hheld)
  · exact .refl
  · exact .refl

theorem completionReason_eq_none {c : Context} : completionReason c = none ↔ ¬ IsComplete c := by
  unfold completionReason IsComplete
  split <;> simp_all

theorem actOccClose_moves {tag : Nat} {s : State} (hg : groundOccClose tag s = none) (h : Header) :
    Moves s (actOccClose h tag s) := by
  unfold actOccClose
  split
  · exact .refl
  · rename_i n c hf
    simp only [groundOccClose, hf, passes_iff, Option.not_isSome_iff_eq_none] at hg
    obtain ⟨-, hn, -⟩ := hg
    exact (done_alike ..).moves.trans
      (complete_moves (by rw [done_occ]; exact findTag_active hf) (.refl c) (completionReason_eq_none.mp hn) (.inl rfl) .command)
  · rename_i k c hf
    exact ((done_alike ..).trans (join_alike ..)).moves.trans
      (OccMove.freeStored k (by rw [join_occ, done_occ]; exact findTag_stored hf)).moves

theorem actOccAbort_moves (h : Header) (tag : Nat) (s : State) : Moves s (actOccAbort h tag s) := by
  unfold actOccAbort
  split
  · exact .refl
  · rename_i x hf
    have hfree : Moves s (freeAt x s) := by
      obtain ⟨p, c⟩ := x
      cases p with
      | active n => exact (OccMove.freeActive n (findTag_active hf)).moves
      | stored k => exact (OccMove.freeStored k (findTag_stored hf)).moves
    exact hfree.trans ((done_alike ..).trans (offerNotice_alike ..)).moves

theorem actOccDefaults_moves (h : Header) (p : Policy) (s : State) : Moves s (actOccDefaults h p s) :=
  ((setSettings_alike (t := { s.settings with policy := p }) rfl rfl).trans (done_alike ..)).moves

theorem not_isComplete_of_parkable {c : Context} (h : notParkable c = false) : ¬ IsComplete c := by
  rintro ⟨w, hw⟩
  simp [notParkable, gathering, isHeld, hw] at h

theorem actOccPark_moves {tag : Nat} {s : State} (hg : groundOccPark tag s = none) (h : Header) : Moves s (actOccPark h tag s) := by
  unfold actOccPark
  split
  · rename_i n c k hf hk
    simp only [groundOccPark, hf, passes_iff, Bool.not_eq_true] at hg
    obtain ⟨-, hpark, -⟩ := hg
    exact (OccMove.park n k (findTag_active hf) (emptyStoreSlot_some hk) (not_isComplete_of_parkable hpark)).moves.trans
      (done_alike ..).moves
  · exact .refl
  · exact .refl
  · exact .refl

theorem resumed_resumes (t v : Nat) (c : Context) : Resumes c (resumed t v c) := by
  unfold resumed
  split
  · exact { afoot := afoot_stale c, accepted := rfl }
  · split
    · exact { afoot := afoot_settled t c, accepted := rfl }
    · exact { afoot := by simp [Afoot, IsComplete], accepted := rfl }

theorem afterResume_moves (c : Context) (v : Nat) (s : State) : Moves s (afterResume c v s) := by
  unfold afterResume
  split
  · exact (offerNotice_alike ..).moves
  · exact passSettle_moves ..

theorem actOccUnpark_moves {tag : Nat} {s : State} (hr : s.sys.part = .ready) (hg : groundOccUnpark tag s = none) (h : Header) :
    Moves s (actOccUnpark h tag s) := by
  unfold actOccUnpark
  split
  · rename_i k c hf
    simp only [groundOccUnpark, hf, passes_iff, Option.not_isSome_iff_eq_none] at hg
    obtain ⟨-, -, hfree, -⟩ := hg
    have hmove : OccMove s (activate c (setStored k none s)) :=
      .unpark k (findTag_stored hf) hfree hr (resumed_resumes (now s) s.settings.cal[c.head].version c)
    exact (hmove.moves.trans (done_alike ..).moves).trans (afterResume_moves ..)
  · exact .refl
  · exact .refl

theorem actOccSwap_moves {p : OccSwapParams} {s : State} (hr : s.sys.part = .ready) (hg : groundOccSwap p s = none) (h : Header) :
    Moves s (actOccSwap h p s) := by
  unfold actOccSwap
  split
  · rename_i n a k b ha hb
    simp only [groundOccSwap, ha, hb, passes_iff, Bool.not_eq_true, not_not] at hg
    obtain ⟨-, hpark, -, hhead, -⟩ := hg
    have hd := resumed_resumes (now s) s.settings.cal[b.head].version b
    have hfields : now (park n k a s) = now s ∧ (park n k a s).settings = s.settings := by
      obtain ⟨g, hl⟩ := leaveList_frame a s
      simp [park, hl, now]
    have hmove : OccMove s (activate b (park n k a s)) := by
      unfold activate
      rw [hfields.1, hfields.2]
      exact .swap n k (findTag_active ha) (findTag_stored hb) hhead (not_isComplete_of_parkable hpark) hr hd
    exact (hmove.moves.trans (done_alike ..).moves).trans (afterResume_moves ..)
  · exact .refl
  · exact .refl
  · exact .refl
  · exact .refl

theorem actOccClone_moves {p : OccCloneParams} {s : State} (hr : s.sys.part = .ready) (hg : groundOccClone p s = none) (h : Header) :
    Moves s (actOccClone h p s) := by
  unfold actOccClone
  split
  · rename_i n x c hn hf
    simp only [groundOccClone, hn, passes_iff, Option.not_isSome_iff_eq_none] at hg
    obtain ⟨-, -, htag, -, hact, -⟩ := hg
    have hlive : (x, c) ∈ liveContexts s.occ := List.mem_of_find?_eq_some hf
    have hmove : OccMove s (setActive n (some (cloned p.tag n s.settings.cal[n].version (now s) c))
        (setTable (updateStation c.station (markUsed 1) s.table) s)) :=
      .openContext n _ _ hr hact (findTag_none htag) rfl (afoot_settled ..) rfl (.inr ⟨_, hlive, rfl⟩)
        (.inl ⟨.inr ⟨_, hlive, rfl⟩, rfl⟩)
    exact (hmove.moves.trans (done_alike ..).moves).trans (passSettle_moves ..)
  · exact .refl
  · exact .refl

/-! ## Every step -/

theorem handleFrame_moves (c : Instr) (s : State) : Moves s (handleFrame c s) := by
  cases c
  case unknownKindCommand => exact (reply_alike ..).moves
  case status => exact handleStatus_moves ..
  case senderSet => exact command_moves (by decide) fun a _ _ => actSenderSet_moves ..
  case save => exact command_moves (by decide) fun a _ _ => actSave_moves ..
  case restart => exact command_moves (by decide) fun a _ _ => actRestart_moves ..
  case headSetup => exact command_moves (by decide) fun a hr _ => actHeadSetup_moves hr ..
  case setPlan => exact command_moves (by decide) fun a hr hg => actSetPlan_moves hr hg _
  case arbSet => exact command_moves (by decide) fun a _ _ => actArbSet_moves ..
  case faultClear => exact command_moves (by decide) fun a _ _ => actFaultClear_moves ..
  case evtSetup => exact command_moves (by decide) fun a _ _ => actEvtSetup_moves ..
  case evtClear h b => exact command_moves (k := .evtClear) (ground := fun _ _ => none) (act := actEvtClear h) (by decide) fun a _ _ => actEvtClear_moves ..
  case groupSet => exact command_moves (by decide) fun a _ hg => actGroupSet_moves hg _
  case queueMarks => exact command_moves (by decide) fun a _ _ => actQueueMarks_moves ..
  case streamSelect => exact command_moves (by decide) fun a _ _ => actStreamSelect_moves ..
  case streamBatch => exact command_moves (by decide) fun a _ _ => actStreamBatch_moves ..
  case calStage => exact command_moves (by decide) fun a _ _ => actCalStage_moves ..
  case calCommit => exact command_moves (by decide) fun a _ _ => actCalCommit_moves ..
  case calDiscard => exact command_moves (by decide) fun a _ _ => actCalDiscard_moves ..
  case calRead => exact command_moves (by decide) fun a _ _ => actCalRead_moves ..
  case setTime => exact command_moves (by decide) fun a _ _ => actSetTime_moves ..
  case pageOpen => exact command_moves (by decide) fun a _ hg => actPageOpen_moves hg _
  case pageAdd => exact command_moves (by decide) fun a _ hg => actPageAdd_moves hg _
  case pageCommit => exact command_moves (by decide) fun a _ hg => actPageCommit_moves hg _
  case pageDrop => exact command_moves (by decide) fun a _ _ => actPageDrop_moves ..
  case pageList => exact command_moves (k := .pageList) (by decide) fun a _ _ => (done_alike ..).moves
  case tideQuery => exact command_moves (by decide) fun a _ _ => actTideQuery_moves ..
  case stnPut => exact command_moves (by decide) fun a _ hg => actStnPut_moves hg _
  case stnDelete => exact command_moves (by decide) fun a _ hg => actStnDelete_moves hg _
  case stnAge h b => exact command_moves (k := .stnAge) (ground := fun _ _ => none) (act := actStnAge h) (by decide) fun a _ _ => actStnAge_moves ..
  case stnGet => exact command_moves (by decide) fun a _ _ => actStnGet_moves ..
  case stnList => exact command_moves (k := .stnList) (by decide) fun a _ _ => (done_alike ..).moves
  case occOpen => exact command_moves (by decide) fun a hr hg => actOccOpen_moves hr hg _
  case occHold => exact command_moves (by decide) fun a _ hg => actOccHold_moves hg _
  case occRelease => exact command_moves (by decide) fun a _ hg => actOccRelease_moves hg _
  case occClose => exact command_moves (by decide) fun a _ hg => actOccClose_moves hg _
  case occAbort => exact command_moves (by decide) fun a _ _ => actOccAbort_moves ..
  case occDefaults => exact command_moves (by decide) fun a _ _ => actOccDefaults_moves ..
  case occQuery => exact command_moves (k := .occQuery) (by decide) fun a _ _ => (done_alike ..).moves
  case occPark => exact command_moves (by decide) fun a _ hg => actOccPark_moves hg _
  case occUnpark => exact command_moves (by decide) fun a hr hg => actOccUnpark_moves hr hg _
  case occSwap => exact command_moves (by decide) fun a hr hg => actOccSwap_moves hr hg _
  case occClone => exact command_moves (by decide) fun a hr hg => actOccClone_moves hr hg _
  case dumpStart => exact command_moves (by decide) fun a _ _ => actDumpStart_moves ..
  case dumpStop => exact command_moves (k := .dumpStop) (by decide) fun a _ _ => ((done_alike ..).trans (endDump_alike ..)).moves
  all_goals exact .refl

theorem takeFrame_moves (s : State) : Moves s (takeFrame s) := by
  unfold takeFrame
  split
  · exact .refl
  · rename_i c rest hc
    split
    · have htaken : Alike s (setIntake rest s) := { intake := fun h => by simp [hc] at h; simpa using by omega }
      exact (htaken.moves.trans (handleFrame_moves ..)).trans (drain_moves _)
    · exact .refl

theorem takeFrames_moves (s : State) : Moves s (takeFrames s) :=
  (((takeFrame_moves _).trans (takeFrame_moves _)).trans (takeFrame_moves _)).trans (takeFrame_moves _)

theorem receive_moves (c : Instr) (s : State) : Moves s (receive c s) :=
  ((takeFrames_moves s).trans (offerIntake_alike ..).moves).trans (takeFrames_moves _)

theorem setLinkReceiver_alike (r : Receiver) (s : State) : Alike s (setLinkReceiver r s) := {}

theorem dropFrame_alike (s : State) : Alike s (dropFrame s) := { framesDropped := fun _ => satAdd_le .. }

theorem huntSurvey_moves (k : Nat) (s : State) : Moves s (huntSurvey k s) := by
  induction k generalizing s with
  | zero => exact .refl
  | succ k ih =>
    unfold huntSurvey
    dsimp only
    split
    · exact .refl
    · split
      · exact (setLinkReceiver_alike ..).moves.trans (ih _)
      · have hrun : Alike s (if s.link.rx.junk = true then dropFrame (setLinkReceiver { s.link.rx with junk := false } s) else s) := by
          split
          · exact (setLinkReceiver_alike ..).trans (dropFrame_alike _)
          · exact .refl s
        split
        · exact hrun.moves
        · split
          · exact hrun.moves
          · split
            · exact ((hrun.trans (setLinkReceiver_alike ..)).moves.trans (receive_moves ..)).trans (ih _)
            · exact ((hrun.trans (setLinkReceiver_alike ..)).trans (dropFrame_alike _)).moves.trans (ih _)

theorem claimEntry_moves (k : Nat) (s : State) : Moves s (claimEntry k s) := by
  induction k generalizing s with
  | zero => exact .refl
  | succ k ih =>
    have hchoice : Alike s { s with choices := s.choices + 1 } := {}
    have htakes (t : State) : Moves t (claimEntry k (takeFrame (drain t))) :=
      ((drain_moves t).trans (takeFrame_moves _)).trans (ih _)
    unfold claimEntry
    split
    · exact .refl
    · dsimp only
      split
      · exact htakes s
      · split
        · exact hchoice.moves.trans (htakes _)
        · exact hchoice.moves
      · refine Relation.ReflTransGen.trans ?_ (ih _)
        split
        · exact (hchoice.moves.trans (drain_moves _)).trans (takeFrame_moves _)
        · exact hchoice.moves.trans (afterEvent_moves ..)

theorem endTransmission_moves (s : State) : Moves s (endTransmission s) := by
  have hfreed : Alike s { s with out := freeEntry s.settings.low s.out } :=
    { queue := fun h => by simp [freeEntry]; omega }
  unfold endTransmission
  dsimp only
  split
  · exact hfreed.moves.trans (Move.start _ _ _ _ _ _ rfl).moves
  · have hbegin (t : State) : Alike t { t with out := beginTransmission t.pins.linkReady t.out } :=
      { queue := fun h => by simpa [beginTransmission_queue] using h
        noticesLost := fun h => by simpa [(beginTransmission_counts _ _).1] using h
        samplesDropped := fun h => by simpa [(beginTransmission_counts _ _).2] using h }
    exact (hfreed.trans (hbegin _)).moves

theorem exec_moves {i : Instr} {s t : State} (h : exec i s = .next t) : Moves s t := by
  by_cases hf : i.isFrame = true
  · rw [exec_frame hf] at h
    obtain rfl := Host.Outcome.next.inj h
    exact (drain_moves s).trans (receive_moves ..)
  · rw [Bool.not_eq_true] at hf
    by_cases hs : ∃ b, i = .surveyFrame b
    · obtain ⟨b, rfl⟩ := hs
      obtain rfl := Host.Outcome.next.inj h
      exact ((drain_moves s).trans (setLinkReceiver_alike ..).moves).trans (huntSurvey_moves ..)
    · by_cases ht : i = .transmissionComplete
      · subst ht
        obtain rfl := Host.Outcome.next.inj h
        split
        · exact (((offerReadings_moves s).trans (endTransmission_moves _)).trans (latchNext_alike _).moves).trans
            (claimEntry_moves ..)
        · exact .refl
      · by_cases hc : i = .coldStart
        · subst hc
          obtain rfl := Host.Outcome.next.inj h
          exact (Move.start _ _ _ _ _ _ rfl).moves
        · rw [eventMeaning_exec hf (fun b hb => hs ⟨b, hb⟩) ht hc] at h
          exact eventMeaning_moves h

theorem step_moves {s t : State} (h : step s = .next t) : Moves s t := by
  unfold step at h
  split at h
  · unfold idle at h
    split at h
    · exact exec_moves h
    · split at h
      · obtain rfl := Host.Outcome.next.inj h
        exact takeFrame_moves s
      · split at h
        · exact exec_moves h
        · obtain rfl := Host.Outcome.next.inj h
          have htick : Alike s (tick s) := {}
          exact htick.moves
  · rename_i c rest _
    have htaken : Alike s { s with pending := rest } := {}
    exact htaken.moves.trans (exec_moves h)

/-- What every move keeps, every step keeps. -/
theorem step_keeps {P : State → Prop} (hP : ∀ s t, Move s t → P s → P t) {s t : State} (hs : P s) (h : step s = .next t) : P t :=
  (step_moves h).keeps hP hs

end Sys2Proof.Machine
end

section
/-! PROOFS. Every step keeps the laws of the queue, the pages, the capacities and the rings (O6, O7, O10). -/

namespace Sys2Proof.Machine

-- One theorem at a time: side by side, the proofs ask for more threads than the check's memory limit has stacks for.
set_option Elab.async false

/-! ## What a move of contexts leaves alone -/

/-- Nothing but contexts, groups, stations and the binding of the correction in flight has changed. -/
def ContextsOnly (s t : State) : Prop :=
  ∃ oc j tb k, t = { s with occ := oc, groups := j, table := tb, corr := k } ∧ (s.corr.inFlight = none → k.inFlight = none)

theorem started_frame (g : Group) (run : Nat) (f : Context → Context) (s : State) :
    ∃ oc j, started g run f s = { s with occ := oc, groups := j } := by
  obtain ⟨oc, h⟩ := startMembers_frame f s.groups[g].arrivals s
  unfold started
  rw [h]
  exact ⟨oc, _, rfl⟩

theorem freeActive_contextsOnly (n : Head) (c : Context) (s : State) : ContextsOnly s (freeActive n c s) := by
  obtain ⟨oc, j, tb, k, h⟩ := freeActive_frame n c s
  have hk := freeActive_inFlight n c s
  rw [h] at hk
  exact ⟨oc, j, tb, k, h, fun hn => by simpa [hn] using hk⟩

theorem freeStored_contextsOnly (k : StoreSlotId) (c : Context) (s : State) : ContextsOnly s (freeStored k c s) := by
  obtain ⟨oc, tb, u, h⟩ := freeStored_frame k c s
  have hu : (freeStored k c s).corr.inFlight.isSome = s.corr.inFlight.isSome := by
    simp [freeStored, unbindTag_inFlight, dropStation, setTable]
  rw [h] at hu
  exact ⟨oc, s.groups, tb, u, h, fun hn => by simpa [hn] using hu⟩

theorem OccMove.contextsOnly {s t : State} (h : OccMove s t) : ContextsOnly s t := by
  have keep {oc : Occupations} {j : Vector JointGroup 2} {tb : StationTable} :
      ContextsOnly s { s with occ := oc, groups := j, table := tb } := ⟨oc, j, tb, s.corr, rfl, id⟩
  cases h with
  | openContext | touch | wait | unpark => exact keep
  | leave n hc =>
    rename_i d _ _
    obtain ⟨j, h⟩ := leaveList_frame d (setActive n (some d) s)
    rw [h]
    exact keep
  | arriveLast n run f hf hc hs hg =>
    rename_i c g
    obtain ⟨oc, j, h⟩ := started_frame g run f (waits n c g s)
    rw [h]
    exact keep
  | release g run f =>
    obtain ⟨oc, j, h⟩ := started_frame g run f s
    rw [h]
    exact keep
  | park n k =>
    rename_i c _ _ _
    obtain ⟨j, h⟩ := leaveList_frame c s
    unfold Machine.park
    rw [h]
    exact keep
  | swap n k =>
    rename_i a b d _ _ _ _ _ _
    obtain ⟨j, h⟩ := leaveList_frame a s
    unfold Machine.park
    rw [h]
    exact keep
  | freeActive => exact freeActive_contextsOnly ..
  | freeStored => exact freeStored_contextsOnly ..

/-! ## The queue (R140, R169) -/

theorem Move.keeps_queueLaw {s t : State} (h : Move s t) (hs : QueueLaw s) : QueueLaw t := by
  cases h with
  | alike h => exact ⟨h.queue hs.1, h.intake hs.2⟩
  | start => exact ⟨Nat.zero_le _, Nat.zero_le _⟩
  | occ h =>
    obtain ⟨oc, j, tb, k, rfl, -⟩ := h.contextsOnly
    exact hs
  | setupHead n p =>
    unfold storeHead
    dsimp only
    split <;> exact hs
  | _ => exact hs

/-! ## The pages (R45 to R48) -/

/-- The law of PageLaw, on the slots alone. -/
def SpansApart (v : Vector PageSlot 3) : Prop :=
  ∀ j k : PageSlotId, j ≠ k → ∀ p q : Page, v[j] = .ready p → v[k] = .ready q → pagesOverlap p q = false

/-- The law of PageNumbersDistinct, on the slots alone. -/
def NumbersApart (v : Vector PageSlot 3) : Prop :=
  ∀ (j k : PageSlotId) (p q : Page), slotPage v[j] = some p → slotPage v[k] = some q → p.number = q.number → j = k

/-- No move but one of the pages themselves changes the slots; a start empties them. -/
theorem Move.slots {s t : State} (h : Move s t) :
    t.pages.slots = s.pages.slots ∨ t.pages.slots = Vector.replicate 3 .empty ∨ PageMove s.pages.slots t.pages.slots := by
  cases h with
  | alike h => exact .inl h.slots
  | start => exact .inr (.inl rfl)
  | pages h => exact .inr (.inr h)
  | occ h =>
    obtain ⟨oc, j, tb, k, rfl, -⟩ := h.contextsOnly
    exact .inl rfl
  | setupHead n p =>
    left
    unfold storeHead
    dsimp only
    split <;> rfl
  | _ => exact .inl rfl

theorem emptySlots_get (k : PageSlotId) : (Vector.replicate 3 PageSlot.empty)[k] = .empty := by simp

theorem pagesOverlap_comm (p q : Page) : pagesOverlap p q = pagesOverlap q p := by
  unfold pagesOverlap
  exact Bool.and_comm _ _

/-- A slot that is not READY overlaps nothing. -/
theorem SpansApart.set_unready {v : Vector PageSlot 3} (hv : SpansApart v) (k : PageSlotId) {x : PageSlot}
    (hx : ∀ p, x ≠ .ready p) : SpansApart (v.set k x) := by
  intro i j hij p q hp hq
  rw [vget_set] at hp hq
  split at hp
  · exact absurd hp (hx p)
  · split at hq
    · exact absurd hq (hx q)
    · exact hv i j hij p q hp hq

theorem PageMove.keeps_spansApart {v w : Vector PageSlot 3} (h : PageMove v w) (hv : SpansApart v) : SpansApart w := by
  cases h with
  | openSlot k p => exact hv.set_unready k (by simp)
  | fill k p q => exact hv.set_unready k (by simp)
  | empty k => exact hv.set_unready k (by simp)
  | commit k p hk ho =>
    intro i j hij a b ha hb
    rw [vget_set] at ha hb
    split at ha
    · rename_i hki
      rw [if_neg fun hkj => hij (hki.symm.trans hkj)] at hb
      obtain rfl := PageSlot.ready.inj ha
      exact ho j b hb
    · split at hb
      · obtain rfl := PageSlot.ready.inj hb
        rw [pagesOverlap_comm]
        exact ho i a ha
      · exact hv i j hij a b ha hb

/-- A slot takes a page of the number it had, or of one that no other slot has. -/
theorem NumbersApart.set {v : Vector PageSlot 3} (hv : NumbersApart v) (k : PageSlotId) {x : PageSlot}
    (hx : ∀ p, slotPage x = some p → ∀ (j : PageSlotId) (q : Page), j ≠ k → slotPage v[j] = some q → q.number ≠ p.number) :
    NumbersApart (v.set k x) := by
  intro i j p q hp hq hpq
  rw [vget_set] at hp hq
  split at hp
  · split at hq
    · rename_i hki hkj
      exact hki.symm.trans hkj
    · rename_i hkj
      exact absurd hpq.symm (hx p hp j q (Ne.symm hkj) hq)
  · split at hq
    · rename_i hki _
      exact absurd hpq (hx q hq i p (Ne.symm hki) hp)
    · exact hv i j p q hp hq hpq

theorem PageMove.keeps_numbersApart {v w : Vector PageSlot 3} (h : PageMove v w) (hv : NumbersApart v) : NumbersApart w := by
  have kept {k : PageSlotId} {p q : Page} (hk : v[k] = .filling p) (hq : q.number = p.number) (j : PageSlotId) (r : Page)
      (hj : j ≠ k) (hr : slotPage v[j] = some r) : r.number ≠ q.number :=
    fun hn => hj (hv j k r p hr (by rw [hk]; rfl) (hn.trans hq))
  cases h with
  | openSlot k p hk hn =>
    refine hv.set k fun p' hp j q _ hq => ?_
    obtain rfl := Option.some.inj hp
    exact hn j q hq
  | fill k p q hk hn =>
    refine hv.set k fun p' hp j r hj hr => ?_
    obtain rfl := Option.some.inj hp
    exact kept hk hn j r hj hr
  | commit k p hk ho =>
    refine hv.set k fun p' hp j r hj hr => ?_
    obtain rfl := Option.some.inj hp
    exact kept hk rfl j r hj hr
  | empty k => exact hv.set k fun p' hp => by simp [slotPage] at hp

theorem Move.keeps_pageLaw {s t : State} (h : Move s t) (hs : PageLaw s) : PageLaw t := by
  change SpansApart t.pages.slots
  obtain h | h | h := h.slots
  · rw [h]; exact hs
  · rw [h]
    intro j k _ p q hp
    rw [emptySlots_get] at hp
    simp at hp
  · exact h.keeps_spansApart hs

theorem Move.keeps_pageNumbersDistinct {s t : State} (h : Move s t) (hs : PageNumbersDistinct s) : PageNumbersDistinct t := by
  change NumbersApart t.pages.slots
  obtain h | h | h := h.slots
  · rw [h]; exact hs
  · rw [h]
    intro j k p q hp
    rw [emptySlots_get] at hp
    simp [slotPage] at hp
  · exact h.keeps_numbersApart hs

/-! ## Partitions, rings and counts (R10, R157, R158) -/

/-- The entry of a head among four that a function gives. -/
theorem vget_four {α : Type} (f : Head → α) (n : Head) : (#v[f 0, f 1, f 2, f 3])[n] = f n := by
  fin_cases n <;> rfl

/-- The counts of a port that saturate (R1, R5, R10). -/
def PortBounds (p : HeadPort) : Prop := p.linkErrors ≤ 65535 ∧ p.overruns ≤ 65535 ∧ p.gaps ≤ 65535

theorem portUnder_bounds (e : Bool) (k : Nat) {p : HeadPort} (h : PortBounds p) : PortBounds (portUnder e k p) := by
  unfold portUnder
  split
  · split <;> exact h
  · exact h

theorem moveSilence_off (d : Int) (x : HeadState) : moveSilence d x = .off ↔ x = .off := by cases x <;> simp [moveSilence]

theorem appendRing_length {cap : Nat} {r : SampleRecord} {g : Ring} (hc : cap ≠ 0) (h : g.records.length ≤ cap) :
    (appendRing cap r g).records.length ≤ cap := by
  simp only [appendRing, List.length_append, List.length_singleton]
  split
  · omega
  · rw [List.length_drop]; omega

/-- What one head's blocks hold (R10, R157). -/
def HeadCapacity (s : State) (n : Head) : Prop :=
  s.partitions[n].length ≤ Config.share s.settings.plan n ∧
    s.archive.rings[n].records.length ≤ Config.capacity s.settings.plan n ∧ PortBounds s.ports[n]

/-- What holds of a part that is STARTING (R19, R181). -/
def AtRest (s : State) : Prop :=
  s.corr.inFlight = none ∧ ∀ n : Head, s.ports[n].state = .off ∧ s.partitions[n] = [] ∧ s.archive.rings[n].records = []

theorem CapacityLaw.atRest {s : State} (h : CapacityLaw s) (hp : s.sys.part = .starting) : AtRest s := by
  obtain ⟨-, -, -, -, -, hrest⟩ := h
  exact hrest hp

theorem Alike.keeps_capacityLaw {s t : State} (h : Alike s t) (hs : CapacityLaw s) : CapacityLaw t := by
  obtain ⟨hheads, hlost, hdropped, hframes, hover, hstart⟩ := hs
  refine ⟨fun n => ?_, h.noticesLost hlost, h.samplesDropped hdropped, h.framesDropped hframes, h.overflows hover, fun hp => ?_⟩
  · obtain ⟨hpart, hring, hl, hv, hg⟩ := hheads n
    rw [h.partitions, h.rings, h.plan]
    exact ⟨hpart, hring, h.linkErrors n hl, h.overruns n hv, h.gaps n hg⟩
  · obtain ⟨hidle, hrest⟩ := hstart (h.part ▸ hp)
    refine ⟨h.idle hidle, fun n => ?_⟩
    obtain ⟨hoff, hpart, hring⟩ := hrest n
    rw [h.partitions, h.rings]
    exact ⟨(h.off n).mpr hoff, hpart, hring⟩

theorem starting_capacityLaw (pending sys clock tide pins choices) :
    CapacityLaw (State.starting pending sys clock tide pins choices) := by
  refine ⟨fun n => ?_, Nat.zero_le _, Nat.zero_le _, Nat.zero_le _, Nat.zero_le _, fun _ => ⟨rfl, fun n => ?_⟩⟩
  all_goals simp [State.starting, State.offPort]

/-- Head by head, a part that is not STARTING. -/
theorem capacityLaw_of_heads {s t : State} (hs : CapacityLaw s) (ho : t.out = s.out) (hl : t.link = s.link)
    (hp : t.sys.part ≠ .starting) (hh : ∀ n, HeadCapacity s n → HeadCapacity t n) : CapacityLaw t := by
  obtain ⟨hheads, hlost, hdropped, hframes, hover, -⟩ := hs
  rw [← ho] at hlost hdropped
  rw [← hl] at hframes hover
  exact ⟨fun n => hh n (hheads n), hlost, hdropped, hframes, hover, fun h => absurd h hp⟩

theorem load_capacityLaw {s : State} (h : s.sys.part = .starting) (hs : CapacityLaw s) : CapacityLaw (takeSettings s) := by
  obtain ⟨-, hrest⟩ := hs.atRest h
  refine capacityLaw_of_heads hs rfl rfl (by simp [takeSettings]) fun n hn => ?_
  obtain ⟨-, -, hb⟩ := hn
  obtain ⟨-, hpart, hring⟩ := hrest n
  refine ⟨?_, ?_, ?_⟩
  · change s.partitions[n].length ≤ _
    rw [hpart]
    exact Nat.zero_le _
  · change s.archive.rings[n].records.length ≤ _
    rw [hring]
    exact Nat.zero_le _
  · have hport := vget_four (fun m => portUnder (loadedSettings s.sys.image).heads[m].enable
      (Config.share (loadedSettings s.sys.image).plan m) s.ports[m]) n
    change PortBounds (#v[_, _, _, _])[n]
    rw [hport]
    exact portUnder_bounds _ _ hb

theorem storeHead_capacityLaw {n : Head} {p : HeadSetupParams} {s : State} (h : s.sys.part = .ready) (hs : CapacityLaw s) :
    CapacityLaw (storeHead n p s) := by
  have hport (m : Head) (hm : PortBounds s.ports[m]) (x : HeadState) :
      PortBounds (s.ports.set n { portUnder p.enable (Config.share s.settings.plan n) s.ports[n] with state := x })[m] := by
    rw [vget_set]
    split
    · rename_i hnm
      rw [hnm]
      exact portUnder_bounds _ _ hm
    · exact hm
  unfold storeHead
  dsimp only
  split
  · refine capacityLaw_of_heads hs rfl rfl (by simp [h]) fun m hm => ?_
    obtain ⟨hpart, hring, hb⟩ := hm
    exact ⟨hpart, hring, hport m hb _⟩
  · refine capacityLaw_of_heads hs rfl rfl (by simp [h]) fun m hm => ?_
    obtain ⟨hpart, hring, hb⟩ := hm
    refine ⟨?_, hring, hport m hb _⟩
    change (s.partitions.set n [])[m].length ≤ _
    rw [vget_set]
    split
    · exact Nat.zero_le _
    · exact hpart

theorem putPlan_capacityLaw {plan : Fin 4} {s : State} (h : s.sys.part = .ready) (he : ∀ n : Head, s.partitions[n] = [])
    (hs : CapacityLaw s) : CapacityLaw (putPlan plan s) := by
  refine capacityLaw_of_heads hs rfl rfl (by simp [putPlan, h]) fun n hn => ?_
  obtain ⟨-, -, hb⟩ := hn
  refine ⟨?_, ?_, ?_⟩
  · change s.partitions[n].length ≤ _
    rw [he]
    exact Nat.zero_le _
  · change (Vector.replicate 4 ({ records := [], counter := 0 } : Ring))[n].records.length ≤ _
    simp
  · have hport := vget_four (portOfPlan plan s) n
    change PortBounds (#v[_, _, _, _])[n]
    rw [hport]
    exact portUnder_bounds _ _ hb

/-- A change of one head's partition, in a part that holds something. -/
theorem partition_capacityLaw {n : Head} {l : List Sample} {k : CorrectionUnit} {s : State}
    (hl : s.partitions[n].length ≤ Config.share s.settings.plan n → l.length ≤ Config.share s.settings.plan n)
    (hbusy : ¬ AtRest s) (hs : CapacityLaw s) : CapacityLaw (setPartition n l { s with corr := k }) := by
  refine capacityLaw_of_heads hs rfl rfl (fun hp => hbusy (hs.atRest hp)) fun m hm => ?_
  obtain ⟨hpart, hrest⟩ := hm
  refine ⟨?_, hrest⟩
  rw [setPartition_partitions, vget_set]
  split
  · rename_i hnm
    subst hnm
    exact hl hpart
  · exact hpart

theorem append_capacityLaw {n : Head} {r : SampleRecord} {s : State} (hc : Config.capacity s.settings.plan n ≠ 0)
    (hf : s.corr.inFlight.isSome = true) (hs : CapacityLaw s) :
    CapacityLaw (setRing n (appendRing (Config.capacity s.settings.plan n) r s.archive.rings[n]) s) := by
  have hbusy (hp : s.sys.part = .starting) : False := by
    obtain ⟨hidle, -⟩ := hs.atRest hp
    simp [hidle] at hf
  refine capacityLaw_of_heads hs rfl rfl hbusy fun m hm => ?_
  obtain ⟨hpart, hring, hb⟩ := hm
  refine ⟨hpart, ?_, hb⟩
  change (s.archive.rings.set n _)[m].records.length ≤ _
  rw [vget_set]
  split
  · rename_i hnm
    subst hnm
    exact appendRing_length hc hring
  · exact hring

theorem applyStep_capacityLaw {d : Int} {s : State} (hs : CapacityLaw s) : CapacityLaw (applyStep d s) := by
  have hget (m : Head) : (applyStep d s).ports[m] = movePort d s.ports[m] := vget_vmap ..
  obtain ⟨hheads, hlost, hdropped, hframes, hover, hstart⟩ := hs
  refine ⟨fun m => ?_, hlost, hdropped, hframes, hover, fun hp => ?_⟩
  · rw [hget]
    exact hheads m
  · obtain ⟨hidle, hrest⟩ := hstart hp
    refine ⟨hidle, fun m => ?_⟩
    obtain ⟨hoff, hm⟩ := hrest m
    rw [hget]
    exact ⟨(moveSilence_off d _).mpr hoff, hm⟩

theorem Move.keeps_capacityLaw {s t : State} (h : Move s t) (hs : CapacityLaw s) : CapacityLaw t := by
  cases h with
  | alike h => exact h.keeps_capacityLaw hs
  | start => exact starting_capacityLaw ..
  | load h => exact load_capacityLaw h hs
  | setupHead n p h => exact storeHead_capacityLaw h hs
  | plan p h he => exact putPlan_capacityLaw h he hs
  | push n x hp hl =>
    exact partition_capacityLaw (k := s.corr) (fun _ => by simpa using hl) (fun ⟨_, hrest⟩ => hp (hrest n).1) hs
  | pop n h k =>
    refine partition_capacityLaw (fun hlen => ?_) (fun ⟨_, hrest⟩ => ?_) hs
    · rw [h, List.length_cons] at hlen
      omega
    · rw [(hrest n).2.1] at h
      simp at h
  | append n r hr hc hf => exact append_capacityLaw hc hf hs
  | clockStep d => exact applyStep_capacityLaw hs
  | groupSet | pages | table => exact hs
  | occ h =>
    obtain ⟨oc, j, tb, k, rfl, hk⟩ := h.contextsOnly
    obtain ⟨hheads, hlost, hdropped, hframes, hover, hstart⟩ := hs
    exact ⟨hheads, hlost, hdropped, hframes, hover, fun hp => ⟨hk (hstart hp).1, (hstart hp).2⟩⟩

/-! ## The sequence numbers of a ring (R157, R158) -/

/-- The law of one head's ring. -/
def RingInOrder (n : Head) (g : Ring) : Prop :=
  g.counter < 4294967296 ∧ ∀ (k : Nat) (r : SampleRecord), g.records[k]? = some r →
    r.head = n ∧ r.seq < 4294967296 ∧ (r.seq + (g.records.length - k)) % 4294967296 = g.counter

theorem emptyRing_inOrder (n : Head) : RingInOrder n { records := [], counter := 0 } := by simp [RingInOrder]

/-- One more record behind those that stand in order. -/
theorem RingInOrder.snoc {n : Head} {g : Ring} {r : SampleRecord} (hg : RingInOrder n g) (hr : r.head = n)
    (hs : r.seq = g.counter) : RingInOrder n { records := g.records ++ [r], counter := seqAdd g.counter 1 } := by
  obtain ⟨hc, hrec⟩ := hg
  refine ⟨Nat.mod_lt _ (by decide), fun k x hx => ?_⟩
  dsimp only at hx ⊢
  have hk : k < g.records.length + 1 := by
    obtain ⟨hlt, -⟩ := List.getElem?_eq_some_iff.mp hx
    simpa using hlt
  rw [List.length_append, List.length_singleton]
  unfold seqAdd seqMod
  obtain hlt | rfl := Nat.lt_succ_iff_lt_or_eq.mp hk
  · rw [List.getElem?_append_left hlt] at hx
    obtain ⟨hhead, hlt', hseq⟩ := hrec k x hx
    refine ⟨hhead, hlt', ?_⟩
    omega
  · rw [List.getElem?_concat_length] at hx
    obtain rfl := Option.some.inj hx
    refine ⟨hr, hs ▸ hc, ?_⟩
    omega

/-- The oldest record goes. -/
theorem RingInOrder.tail {n : Head} {g : Ring} (hg : RingInOrder n g) :
    RingInOrder n { records := g.records.drop 1, counter := g.counter } := by
  obtain ⟨hc, hrec⟩ := hg
  refine ⟨hc, fun k x hx => ?_⟩
  dsimp only at hx ⊢
  rw [List.getElem?_drop] at hx
  obtain ⟨hhead, hlt, hseq⟩ := hrec (1 + k) x hx
  refine ⟨hhead, hlt, ?_⟩
  rw [List.length_drop, Nat.sub_sub]
  exact hseq

theorem RingInOrder.append {n : Head} {g : Ring} {r : SampleRecord} (cap : Nat) (hg : RingInOrder n g) (hr : r.head = n)
    (hs : r.seq = g.counter) : RingInOrder n (appendRing cap r g) := by
  unfold appendRing
  dsimp only
  split
  · exact hg.snoc hr hs
  · exact hg.tail.snoc hr hs

theorem Move.keeps_ringLaw {s t : State} (h : Move s t) (hs : RingLaw s) : RingLaw t := by
  intro n
  change RingInOrder n t.archive.rings[n]
  have hn : RingInOrder n s.archive.rings[n] := hs n
  have hempty : RingInOrder n (Vector.replicate 4 ({ records := [], counter := 0 } : Ring))[n] := by
    simpa using emptyRing_inOrder n
  cases h with
  | alike h => rw [h.rings]; exact hn
  | start => exact hempty
  | plan => exact hempty
  | append m r hr =>
    change RingInOrder n (s.archive.rings.set m _)[n]
    rw [vget_set]
    split
    · rename_i hmn
      subst hmn
      exact hn.append _ hr rfl
    · exact hn
  | setupHead m p =>
    unfold storeHead
    dsimp only
    split <;> exact hn
  | occ h =>
    obtain ⟨oc, j, tb, k, rfl, -⟩ := h.contextsOnly
    exact hn
  | _ => exact hn

/-! ## The statements -/

/-- Settles O6: every move keeps the queue and the intake within their sizes. -/
theorem stepKeepsQueueLaw : Obligations.StepKeepsQueueLaw :=
  fun _ _ => step_keeps fun _ _ h => h.keeps_queueLaw

/-- Settles O7: the moves of the pages keep spans and numbers apart, and no other move changes a slot but a start. -/
theorem stepKeepsPageLaw : Obligations.StepKeepsPageLaw :=
  ⟨fun _ _ => step_keeps fun _ _ h => h.keeps_pageLaw, fun _ _ => step_keeps fun _ _ h => h.keeps_pageNumbersDistinct⟩

/-- Settles O10: the guards of the moves that fill partitions and rings keep them within their shares. -/
theorem stepKeepsCapacityLaw : Obligations.StepKeepsCapacityLaw :=
  ⟨fun _ _ => step_keeps fun _ _ h => h.keeps_capacityLaw, fun _ _ => step_keeps fun _ _ h => h.keeps_ringLaw⟩

end Sys2Proof.Machine
end

section
/-! PROOFS. Where contexts stand after each move, and the laws of slots and tags (O9). -/

namespace Sys2Proof.Machine

-- One theorem at a time: side by side, the proofs ask for more threads than the check's memory limit has stacks for.
set_option Elab.async false

/-! ## The occupant of a place after each operation -/

@[simp] theorem leaveList_occ (c : Context) (s : State) : (leaveList c s).occ = s.occ := by
  obtain ⟨g, h⟩ := leaveList_frame c s
  rw [h]

@[simp] theorem unbindTag_occ (tag : Nat) (s : State) : (unbindTag tag s).occ = s.occ := by
  obtain ⟨k, h⟩ := unbindTag_frame tag s
  rw [h]

theorem contextAt_setActive (n : Head) (a : Option Context) (s : State) (p : Place) :
    contextAt (setActive n a s).occ p = if p = .active n then a else contextAt s.occ p := by
  cases p with
  | active m =>
    change (s.occ.active.set n a)[m] = _
    rw [vget_set]
    simp only [Place.active.injEq, eq_comm (a := n)]
    rfl
  | stored k => rfl

theorem contextAt_setStored (k : StoreSlotId) (a : Option Context) (s : State) (p : Place) :
    contextAt (setStored k a s).occ p = if p = .stored k then a else contextAt s.occ p := by
  cases p with
  | active m => rfl
  | stored j =>
    change (s.occ.store.set k a)[j] = _
    rw [vget_set]
    simp only [Place.stored.injEq, eq_comm (a := k)]
    rfl

theorem contextAt_leave (n : Head) (d : Context) (s : State) (p : Place) :
    contextAt (leaveList d (setActive n (some d) s)).occ p = if p = .active n then some d else contextAt s.occ p := by
  rw [leaveList_occ, contextAt_setActive]

theorem contextAt_waits (n : Head) (c : Context) (g : Group) (s : State) (p : Place) :
    contextAt (waits n c g s).occ p = if p = .active n then some { c with state := .waiting } else contextAt s.occ p :=
  contextAt_setActive ..

theorem contextAt_park (n : Head) (k : StoreSlotId) (c : Context) (s : State) (p : Place) :
    contextAt (park n k c s).occ p = if p = .stored k then some (parkedContext (now s) c)
      else if p = .active n then none else contextAt s.occ p := by
  unfold park
  rw [contextAt_setStored, contextAt_setActive, leaveList_occ]

theorem contextAt_resumeIn (c d : Context) (s : State) (p : Place) :
    contextAt (resumeIn c d s).occ p = if p = .active c.head then some d else contextAt s.occ p :=
  contextAt_setActive ..

theorem contextAt_freeActive (n : Head) (c : Context) (s : State) (p : Place) :
    contextAt (freeActive n c s).occ p = if p = .active n then none else contextAt s.occ p := by
  have h : contextAt (freeActive n c s).occ p = contextAt (setActive n none (unbindTag c.tag (dropStation c.station
      (leaveList c s)))).occ p := by
    cases p <;> rfl
  rw [h, contextAt_setActive, unbindTag_occ]
  simp [dropStation]

theorem contextAt_freeStored (k : StoreSlotId) (c : Context) (s : State) (p : Place) :
    contextAt (freeStored k c s).occ p = if p = .stored k then none else contextAt s.occ p := by
  unfold freeStored
  rw [contextAt_setStored, unbindTag_occ]
  simp [dropStation]

/-! ## The members of a list that start -/

theorem activeHead_some {o : Occupations} {tag : Nat} {n : Head} (h : activeHead o tag = some n) :
    ∃ c, o.active[n] = some c ∧ c.tag = tag := by
  simp only [activeHead, Option.map_eq_some_iff] at h
  obtain ⟨⟨m, c⟩, hf, rfl⟩ := h
  exact ⟨c, mem_activeContexts.mp (List.mem_of_find?_eq_some hf), by simpa using List.find?_some hf⟩

theorem activeHead_none {o : Occupations} {tag : Nat} (h : activeHead o tag = none) (n : Head) (c : Context)
    (hc : o.active[n] = some c) : c.tag ≠ tag := by
  simp only [activeHead, Option.map_eq_none_iff, List.find?_eq_none] at h
  simpa using h (n, c) (mem_activeContexts.mpr hc)

/-- A member of a list has entered RUNNING; what it keeps for life, and its count, are as they were. -/
structure Starts (c d : Context) : Prop extends Kin c d where
  runs : ∃ b e, d.state = .running b e
  accepted : d.acc.accepted = c.acc.accepted

/-- The contexts after the start of members of a list: each is as it was, or a member of the list that has entered RUNNING. -/
def StartsAmong (l : List Nat) (o o' : Occupations) : Prop :=
  o'.store = o.store ∧ ∀ n : Head, o'.active[n] = o.active[n] ∨
    ∃ c d, o.active[n] = some c ∧ o'.active[n] = some d ∧ c.tag ∈ l ∧ Starts c d

theorem startMember_among {f : Context → Context} (hf : ∀ c, Kin c (f c) ∧ (f c).acc.accepted = c.acc.accepted) (s : State)
    (tag : Nat) : StartsAmong [tag] s.occ (startMember f s tag).occ := by
  unfold startMember
  split
  · exact ⟨rfl, fun _ => .inl rfl⟩
  · rename_i n hn
    obtain ⟨c, hc, htag⟩ := activeHead_some hn
    rw [hc]
    refine ⟨rfl, fun m => ?_⟩
    change (s.occ.active.set n _)[m] = _ ∨ _
    by_cases hm : n = m
    · subst hm
      obtain ⟨hk, ha⟩ := hf c
      refine .inr ⟨c, running (now s) (f c), hc, vget_set_self .., by simp [htag], ?_⟩
      exact { toKin := hk.trans (running_kin ..), runs := ⟨_, _, rfl⟩, accepted := ha }
    · exact .inl (vget_set_ne _ hm _)

theorem Starts.trans {c d e : Context} (h : Starts c d) (k : Starts d e) : Starts c e :=
  { toKin := h.toKin.trans k.toKin, runs := k.runs, accepted := k.accepted.trans h.accepted }

theorem StartsAmong.trans {l m : List Nat} {o o' o'' : Occupations} (h : StartsAmong l o o') (k : StartsAmong m o' o'') :
    StartsAmong (l ++ m) o o'' := by
  refine ⟨k.1.trans h.1, fun n => ?_⟩
  obtain hn | ⟨c, d, hc, hd, hl, hs⟩ := h.2 n <;> obtain kn | ⟨c', d', hc', hd', hl', hs'⟩ := k.2 n
  · exact .inl (kn.trans hn)
  · exact .inr ⟨c', d', hn ▸ hc', hd', by simp [hl'], hs'⟩
  · exact .inr ⟨c, d, hc, kn ▸ hd, by simp [hl], hs⟩
  · obtain rfl := Option.some.inj (hd.symm.trans hc')
    exact .inr ⟨c, d', hc, hd', by simp [hl], hs.trans hs'⟩

theorem startMembers_among {f : Context → Context} (hf : ∀ c, Kin c (f c) ∧ (f c).acc.accepted = c.acc.accepted) (l : List Nat)
    (s : State) : StartsAmong l s.occ (l.foldl (startMember f) s).occ := by
  induction l generalizing s with
  | nil => exact ⟨rfl, fun _ => .inl rfl⟩
  | cons tag l ih => exact (startMember_among hf s tag).trans (ih _)

theorem started_among {f : Context → Context} (hf : ∀ c, Kin c (f c) ∧ (f c).acc.accepted = c.acc.accepted) (g : Group) (run : Nat)
    (s : State) : StartsAmong s.groups[g].arrivals s.occ (started g run f s).occ := startMembers_among hf ..

/-- The occupant of a place after members have started. -/
theorem StartsAmong.contextAt {l : List Nat} {o o' : Occupations} (h : StartsAmong l o o') (p : Place) :
    contextAt o' p = contextAt o p ∨
      ∃ n c d, p = .active n ∧ contextAt o p = some c ∧ contextAt o' p = some d ∧ c.tag ∈ l ∧ Starts c d := by
  cases p with
  | active n =>
    obtain hn | ⟨c, d, hc, hd, hl, hs⟩ := h.2 n
    · exact .inl hn
    · exact .inr ⟨n, c, d, rfl, hc, hd, hl, hs⟩
  | stored k =>
    left
    change o'.store[k] = o.store[k]
    rw [h.1]

/-! ## The other moves -/

theorem moveContext_kin (d : Int) (c : Context) : Kin c (moveContext d c) := by
  unfold moveContext
  split <;> exact {}

theorem moveContext_accepted (d : Int) (c : Context) : (moveContext d c).acc.accepted = c.acc.accepted := by
  unfold moveContext
  split <;> rfl

theorem moveContext_state (d : Int) (c : Context) : ((moveContext d c).state = .waiting ↔ c.state = .waiting) ∧
    ((moveContext d c).state = .parked ↔ c.state = .parked) ∧ ∀ w, (moveContext d c).state = .complete w ↔ c.state = .complete w := by
  unfold moveContext
  split <;> simp_all

theorem applyStep_active (d : Int) (s : State) (n : Head) : (applyStep d s).occ.active[n] = s.occ.active[n].map (moveContext d) :=
  vget_vmap ..

/-- No move but one of the contexts themselves changes a context, save a step of the clock; a start leaves none. -/
theorem Move.occupants {s t : State} (h : Move s t) : contextAt t.occ = contextAt s.occ ∨ (∀ p, contextAt t.occ p = none) ∨
    (∃ d, t = applyStep d s) ∨ OccMove s t := by
  have same {o : Occupations} (ha : o.active = s.occ.active) (hs : o.store = s.occ.store) : contextAt o = contextAt s.occ := by
    funext p
    cases p with
    | active n => simp only [contextAt, ha]
    | stored k => simp only [contextAt, hs]
  cases h with
  | alike h => exact .inl (same h.active h.store)
  | start =>
    refine .inr (.inl fun p => ?_)
    cases p <;> simp [State.starting, contextAt]
  | clockStep d => exact .inr (.inr (.inl ⟨d, rfl⟩))
  | occ h => exact .inr (.inr (.inr h))
  | setupHead n p =>
    left
    unfold storeHead
    dsimp only
    split <;> rfl
  | _ => exact .inl rfl

/-! ## Contexts in their places (R74, R105) -/

/-- The context belongs at the place: active on its own head and not PARKED, or PARKED in the store. -/
def InPlace (c : Context) : Place → Prop
  | .active n => c.head = n ∧ c.state ≠ .parked
  | .stored _ => c.state = .parked

theorem slotLaw_iff {o : Occupations} : SlotLaw o ↔ ∀ p c, contextAt o p = some c → InPlace c p := by
  constructor
  · rintro ⟨ha, hs⟩ p c hc
    cases p with
    | active n => exact ha n c hc
    | stored k => exact hs k c hc
  · exact fun h => ⟨fun n c hc => h (.active n) c hc, fun k c hc => h (.stored k) c hc⟩

/-- The active context after a change in its slot, or a new one. -/
theorem SlotLaw.set_active {o o' : Occupations} {n : Head} {d : Context} (ho : SlotLaw o)
    (h : ∀ p, contextAt o' p = if p = .active n then some d else contextAt o p) (hd : InPlace d (.active n)) : SlotLaw o' := by
  rw [slotLaw_iff] at ho ⊢
  intro p c hc
  rw [h] at hc
  split at hc
  · rename_i hp
    obtain rfl := Option.some.inj hc
    exact hp ▸ hd
  · exact ho p c hc

theorem SlotLaw.of_starts {l : List Nat} {o o' : Occupations} (ho : SlotLaw o) (h : StartsAmong l o o') : SlotLaw o' := by
  rw [slotLaw_iff] at ho ⊢
  intro p d hd
  obtain hp | ⟨n, c, d', rfl, hc, hd', -, hs⟩ := h.contextAt p
  · exact ho p d (hp ▸ hd)
  · obtain rfl := Option.some.inj (hd'.symm.trans hd)
    obtain ⟨b, e, hrun⟩ := hs.runs
    exact ⟨hs.head.trans (ho _ c hc).1, by simp [hrun]⟩

theorem OccMove.keeps_slotLaw {s t : State} (h : OccMove s t) (hs : SlotLaw s.occ) : SlotLaw t.occ := by
  have hplace := slotLaw_iff.mp hs
  cases h with
  | openContext n c tb hr hn ht hh hf =>
    exact hs.set_active (contextAt_setActive n (some c) (setTable tb s)) ⟨hh, hf.2.2⟩
  | touch n hc hf hw =>
    obtain ⟨hhead, hpark⟩ := hs.1 n _ hc
    exact hs.set_active (contextAt_setActive n _ s) ⟨hf.head.trans hhead, fun hp => hpark (hf.parked hp)⟩
  | leave n hc hf hw =>
    obtain ⟨hhead, hpark⟩ := hs.1 n _ hc
    exact hs.set_active (contextAt_leave n _ s) ⟨hf.head.trans hhead, fun hp => hpark (hf.parked hp)⟩
  | wait n hc hf hg hl => exact hs.set_active (contextAt_waits n _ _ s) ⟨(hs.1 n _ hc).1, by simp⟩
  | arriveLast n run f hf hc hfoot hg =>
    exact (hs.set_active (contextAt_waits n _ _ s) ⟨(hs.1 n _ hc).1, by simp⟩).of_starts (started_among hf ..)
  | release g run f hf => exact hs.of_starts (started_among hf ..)
  | park n k hc hk hcomp =>
    rw [slotLaw_iff]
    intro p c hp
    rw [contextAt_park] at hp
    split at hp
    · rename_i hpk
      obtain rfl := Option.some.inj hp
      rw [hpk]
      exact rfl
    · split at hp
      · simp at hp
      · exact hplace p c hp
  | unpark k hk hn hr hd =>
    rw [slotLaw_iff]
    intro p c hp
    rw [contextAt_resumeIn, contextAt_setStored] at hp
    split at hp
    · rename_i hpa
      obtain rfl := Option.some.inj hp
      exact hpa ▸ ⟨hd.head, hd.afoot.2.2⟩
    · split at hp
      · simp at hp
      · exact hplace p c hp
  | swap n k ha hb hh hcomp hr hd =>
    rw [slotLaw_iff]
    intro p c hp
    rw [contextAt_resumeIn, contextAt_park] at hp
    split at hp
    · rename_i hpa
      obtain rfl := Option.some.inj hp
      exact hpa ▸ ⟨hd.head, hd.afoot.2.2⟩
    · split at hp
      · rename_i hpk
        obtain rfl := Option.some.inj hp
        rw [hpk]
        exact rfl
      · split at hp
        · simp at hp
        · exact hplace p c hp
  | freeActive n hc =>
    rw [slotLaw_iff]
    intro p c hp
    rw [contextAt_freeActive] at hp
    split at hp
    · simp at hp
    · exact hplace p c hp
  | freeStored k hc =>
    rw [slotLaw_iff]
    intro p c hp
    rw [contextAt_freeStored] at hp
    split at hp
    · simp at hp
    · exact hplace p c hp

theorem Move.keeps_slotLaw {s t : State} (h : Move s t) (hs : SlotLaw s.occ) : SlotLaw t.occ := by
  obtain h | h | ⟨d, rfl⟩ | h := h.occupants
  · rw [slotLaw_iff, h]
    exact slotLaw_iff.mp hs
  · rw [slotLaw_iff]
    intro p c hc
    rw [h] at hc
    simp at hc
  · refine ⟨fun n c hc => ?_, hs.2⟩
    rw [applyStep_active, Option.map_eq_some_iff] at hc
    obtain ⟨c', hc', rfl⟩ := hc
    obtain ⟨hhead, hpark⟩ := hs.1 n c' hc'
    exact ⟨(moveContext_kin d c').head.trans hhead, fun hp => hpark ((moveContext_state d c').2.1.mp hp)⟩
  · exact h.keeps_slotLaw hs

/-! ## Tags (R80, R105) -/

/-- The law of LiveTagsDistinct, by places. -/
def TagsApart (o : Occupations) : Prop :=
  ∀ p q c d, contextAt o p = some c → contextAt o q = some d → c.tag = d.tag → p = q

theorem activeContexts_places (o : Occupations) : ((activeContexts o).map fun x => x.1).Nodup := by
  have h : (activeContexts o).map (fun x => x.1) = heads.filter fun n => o.active[n].isSome := by
    unfold activeContexts
    induction heads with
    | nil => rfl
    | cons n l ih => cases hn : o.active[n] <;> simp_all
  rw [h]
  exact List.Nodup.filter _ (by decide)

theorem parkedContexts_places (o : Occupations) : ((parkedContexts o).map fun x => x.1).Nodup := by
  have h : (parkedContexts o).map (fun x => x.1) = storeSlots.filter fun k => o.store[k].isSome := by
    unfold parkedContexts
    induction storeSlots with
    | nil => rfl
    | cons n l ih => cases hn : o.store[n] <;> simp_all
  rw [h]
  exact List.Nodup.filter _ (by decide)

theorem liveContexts_places (o : Occupations) : ((liveContexts o).map fun x => x.1).Nodup := by
  have ha : ((activeContexts o).map fun x => Place.active x.1).Nodup :=
    List.Nodup.of_map (f := fun p => match p with | .active n => n | .stored _ => 0)
      (by simpa [Function.comp_def] using activeContexts_places o)
  have hp : ((parkedContexts o).map fun x => Place.stored x.1).Nodup :=
    List.Nodup.of_map (f := fun p => match p with | .active _ => 0 | .stored k => k)
      (by simpa [Function.comp_def] using parkedContexts_places o)
  simp only [liveContexts, List.map_append, List.map_map, Function.comp_def]
  exact List.Nodup.append ha hp (by
    simp only [List.disjoint_left, List.mem_map]
    rintro _ ⟨x, -, rfl⟩ ⟨y, -, hy⟩
    exact Place.noConfusion hy)

theorem liveTagsDistinct_iff {o : Occupations} : LiveTagsDistinct o ↔ TagsApart o := by
  have hplaces := List.Nodup.of_map _ (liveContexts_places o)
  unfold LiveTagsDistinct
  rw [List.nodup_map_iff_inj_on hplaces]
  constructor
  · intro h p q c d hc hd htag
    exact congrArg Prod.fst (h (p, c) (mem_liveContexts.mpr hc) (q, d) (mem_liveContexts.mpr hd) htag)
  · rintro h ⟨p, c⟩ hc ⟨q, d⟩ hd htag
    rw [mem_liveContexts] at hc hd
    obtain rfl := h p q c d hc hd htag
    exact congrArg (Prod.mk p) (Option.some.inj (hc.symm.trans hd))

/-- Every context after a change was there before, under its tag, and no two come from one place. -/
theorem TagsApart.of_origin {o o' : Occupations} (h : TagsApart o) (f : Place → Place)
    (hf : ∀ p d, contextAt o' p = some d → ∃ c, contextAt o (f p) = some c ∧ d.tag = c.tag)
    (hinj : ∀ p q, (contextAt o' p).isSome → (contextAt o' q).isSome → f p = f q → p = q) : TagsApart o' := by
  intro p q c d hc hd htag
  obtain ⟨c', hc', hct⟩ := hf p c hc
  obtain ⟨d', hd', hdt⟩ := hf q d hd
  exact hinj p q (by simp [hc]) (by simp [hd]) (h _ _ c' d' hc' hd' (by rw [← hct, ← hdt, htag]))

/-- The same places, the same tags. -/
theorem TagsApart.of_kept {o o' : Occupations} (h : TagsApart o)
    (hk : ∀ p d, contextAt o' p = some d → ∃ c, contextAt o p = some c ∧ d.tag = c.tag) : TagsApart o' :=
  h.of_origin id hk fun _ _ _ _ => id

theorem TagsApart.set_active {o o' : Occupations} {n : Head} {c d : Context} (ho : TagsApart o)
    (h : ∀ p, contextAt o' p = if p = .active n then some d else contextAt o p) (hc : o.active[n] = some c)
    (ht : d.tag = c.tag) : TagsApart o' := by
  refine ho.of_kept fun p e he => ?_
  rw [h] at he
  split at he
  · rename_i hp
    obtain rfl := Option.some.inj he
    exact ⟨c, hp ▸ hc, ht⟩
  · exact ⟨e, he, rfl⟩

theorem TagsApart.of_starts {l : List Nat} {o o' : Occupations} (ho : TagsApart o) (h : StartsAmong l o o') : TagsApart o' := by
  refine ho.of_kept fun p d hd => ?_
  obtain hp | ⟨n, c, d', rfl, hc, hd', -, hs⟩ := h.contextAt p
  · exact ⟨d, hp ▸ hd, rfl⟩
  · obtain rfl := Option.some.inj (hd'.symm.trans hd)
    exact ⟨c, hc, hs.tag⟩

/-- Where the occupants of a swap came from (R113). -/
def swapOrigin (n m : Head) (k : StoreSlotId) (p : Place) : Place :=
  if p = .active m then .stored k else if p = .stored k then .active n else p

theorem OccMove.keeps_tagsApart {s t : State} (h : OccMove s t) (hs : TagsApart s.occ) : TagsApart t.occ := by
  cases h with
  | openContext n c tb hr hn ht =>
    have hat := contextAt_setActive n (some c) (setTable tb s)
    have hnew (q : Place) (d : Context) (hd : contextAt s.occ q = some d) : d.tag ≠ c.tag := ht (q, d) (mem_liveContexts.mpr hd)
    intro p q d e hd he htag
    rw [hat] at hd he
    split at hd
    · split at he
      · rename_i hp hq
        exact hp.trans hq.symm
      · obtain rfl := Option.some.inj hd
        exact absurd htag.symm (hnew q e he)
    · split at he
      · obtain rfl := Option.some.inj he
        exact absurd htag (hnew p d hd)
      · exact hs p q d e hd he htag
  | touch n hc hf hw => exact hs.set_active (contextAt_setActive n _ s) hc hf.tag
  | leave n hc hf hw => exact hs.set_active (contextAt_leave n _ s) hc hf.tag
  | wait n hc hf hg hl => exact hs.set_active (contextAt_waits n _ _ s) hc rfl
  | arriveLast n run f hf hc hfoot hg =>
    exact (hs.set_active (contextAt_waits n _ _ s) hc rfl).of_starts (started_among hf ..)
  | release g run f hf => exact hs.of_starts (started_among hf ..)
  | park n k hc hk hcomp =>
    rename_i c
    refine hs.of_origin (fun p => if p = .stored k then .active n else p) (fun p d hd => ?_) fun p q hp hq hpq => ?_
    · rw [contextAt_park] at hd
      split at hd
      · rename_i hpk
        obtain rfl := Option.some.inj hd
        exact ⟨c, by rw [if_pos hpk]; exact hc, rfl⟩
      · rename_i hpk
        split at hd
        · simp at hd
        · exact ⟨d, by rwa [if_neg hpk], rfl⟩
    · rw [contextAt_park] at hp hq
      grind
  | unpark k hk hn hr hd =>
    rename_i c d
    refine hs.of_origin (fun p => if p = .active c.head then .stored k else p) (fun p e he => ?_) fun p q hp hq hpq => ?_
    · rw [contextAt_resumeIn, contextAt_setStored] at he
      split at he
      · rename_i hpa
        obtain rfl := Option.some.inj he
        exact ⟨c, by rw [if_pos hpa]; exact hk, hd.tag⟩
      · rename_i hpa
        split at he
        · simp at he
        · exact ⟨e, by rwa [if_neg hpa], rfl⟩
    · rw [contextAt_resumeIn, contextAt_setStored] at hp hq
      grind
  | swap n k ha hb hh hcomp hr hd =>
    rename_i a b d
    refine hs.of_origin (swapOrigin n b.head k) (fun p e he => ?_) fun p q hp hq hpq => ?_
    · rw [contextAt_resumeIn, contextAt_park] at he
      unfold swapOrigin
      split at he
      · rename_i hpa
        obtain rfl := Option.some.inj he
        exact ⟨b, by rw [if_pos hpa]; exact hb, hd.tag⟩
      · rename_i hpa
        rw [if_neg hpa]
        split at he
        · rename_i hpk
          obtain rfl := Option.some.inj he
          exact ⟨a, by rw [if_pos hpk]; exact ha, rfl⟩
        · rename_i hpk
          split at he
          · simp at he
          · exact ⟨e, by rwa [if_neg hpk], rfl⟩
    · rw [contextAt_resumeIn, contextAt_park] at hp hq
      unfold swapOrigin at hpq
      grind
  | freeActive n hc =>
    refine hs.of_kept fun p d hd => ?_
    rw [contextAt_freeActive] at hd
    split at hd
    · simp at hd
    · exact ⟨d, hd, rfl⟩
  | freeStored k hc =>
    refine hs.of_kept fun p d hd => ?_
    rw [contextAt_freeStored] at hd
    split at hd
    · simp at hd
    · exact ⟨d, hd, rfl⟩

/-- The occupant of a place after a step of the clock. -/
theorem contextAt_applyStep (d : Int) (s : State) (p : Place) (c : Context) (h : contextAt (applyStep d s).occ p = some c) :
    ∃ c', contextAt s.occ p = some c' ∧ (c = c' ∨ c = moveContext d c') := by
  cases p with
  | active n =>
    change (applyStep d s).occ.active[n] = some c at h
    rw [applyStep_active, Option.map_eq_some_iff] at h
    obtain ⟨c', hc', rfl⟩ := h
    exact ⟨c', hc', .inr rfl⟩
  | stored k => exact ⟨c, h, .inl rfl⟩

theorem Move.keeps_tagsApart {s t : State} (h : Move s t) (hs : TagsApart s.occ) : TagsApart t.occ := by
  obtain h | h | ⟨d, rfl⟩ | h := h.occupants
  · exact hs.of_kept fun p d hd => ⟨d, h ▸ hd, rfl⟩
  · intro p q c d hc
    rw [h] at hc
    simp at hc
  · refine hs.of_kept fun p c hc => ?_
    obtain ⟨c', hc', rfl | rfl⟩ := contextAt_applyStep d s p c hc
    · exact ⟨c, hc', rfl⟩
    · exact ⟨c', hc', (moveContext_kin d c').tag⟩
  · exact h.keeps_tagsApart hs

/-- Settles O9: every move keeps contexts in their places, and brings each from one place of its own. -/
theorem stepKeepsSlotLaw : Obligations.StepKeepsSlotLaw := by
  refine ⟨fun s t => step_keeps (P := fun s => SlotLaw s.occ) fun _ _ h => h.keeps_slotLaw, fun s t hs h => ?_⟩
  rw [liveTagsDistinct_iff] at hs ⊢
  exact step_keeps (P := fun s => TagsApart s.occ) (fun _ _ h => h.keeps_tagsApart) hs h

end Sys2Proof.Machine
end

section
/-! PROOFS. The operations of the station table, and its law (O8). -/

namespace Sys2Proof.Machine

-- One theorem at a time: side by side, the proofs ask for more threads than the check's memory limit has stacks for.
set_option Elab.async false

/-! ## Sums over the entries of a vector -/

theorem sum_set_add {l : List Nat} {i : Nat} (h : i < l.length) (a : Nat) : (l.set i a).sum + l[i] = l.sum + a := by
  induction l generalizing i with
  | nil => simp at h
  | cons x l ih =>
    cases i with
    | zero => simp; omega
    | succ i =>
      have := ih (i := i) (by simpa using h)
      simp only [List.set_cons_succ, List.sum_cons, List.getElem_cons_succ]
      omega

theorem sum_vset_add {α : Type} {k : Nat} (f : α → Nat) (v : Vector α k) (i : Fin k) (a : α) :
    ((v.set i a).toList.map f).sum + f v[i] = (v.toList.map f).sum + f a := by
  have h := sum_set_add (l := v.toList.map f) (i := i) (by simp) (f a)
  have hset : (v.set i a).toList.map f = (v.toList.map f).set i (f a) := by simp [Vector.toList_set, List.map_set]
  rw [hset, ← h]
  simp

/-! ## Buckets -/

theorem bucketRecords_eq_nil {b : Bucket} (h : b.primary = none) (hc : b.chain = []) : bucketRecords b = [] := by
  simp [bucketRecords, h, hc]

/-- The change that updateBucket makes to each record. -/
def updated (number : Nat) (f : StationRecord → StationRecord) (r : StationRecord) : StationRecord :=
  if r.number = number then f r else r

theorem updated_number {number : Nat} {f : StationRecord → StationRecord} (hf : ∀ r, (f r).number = r.number) (r : StationRecord) :
    (updated number f r).number = r.number := by
  unfold updated
  split
  · exact hf r
  · rfl

theorem bucketRecords_updateBucket (number : Nat) (f : StationRecord → StationRecord) (b : Bucket) :
    bucketRecords (updateBucket number f b) = (bucketRecords b).map (updated number f) := by
  cases h : b.primary <;> simp [bucketRecords, updateBucket, updated, h]

theorem bucketRecords_bucketOf (l : List StationRecord) : bucketRecords (bucketOf l) = l := by
  cases l <;> rfl

theorem bucketOf_chain_length (l : List StationRecord) : (bucketOf l).chain.length = l.length - 1 := by
  cases l <;> rfl

theorem bucketOf_primary {l : List StationRecord} (h : (bucketOf l).primary = none) : (bucketOf l).chain = [] := by
  cases l with
  | nil => rfl
  | cons r l => simp [bucketOf] at h

/-- In a bucket without a hole the chain is all but the first of its records. -/
theorem chain_length {b : Bucket} (h : b.primary = none → b.chain = []) : b.chain.length = (bucketRecords b).length - 1 := by
  cases hp : b.primary with
  | none => simp [bucketRecords, hp, h hp]
  | some r => simp [bucketRecords, hp]

theorem BucketLaw.update {k : Fin 64} {b : Bucket} (h : BucketLaw k b) (number : Nat) {f : StationRecord → StationRecord}
    (hf : ∀ r, (f r).number = r.number) : BucketLaw k (updateBucket number f b) := by
  obtain ⟨hbelong, hdistinct, hhole⟩ := h
  refine ⟨fun r hr => ?_, ?_, fun hp => ?_⟩
  · rw [bucketRecords_updateBucket, List.mem_map] at hr
    obtain ⟨x, hx, rfl⟩ := hr
    rw [updated_number hf]
    exact hbelong x hx
  · rw [bucketRecords_updateBucket, List.map_map]
    exact (List.map_congr_left fun r _ => updated_number hf r) ▸ hdistinct
  · have hb : b.primary = none := by simpa [updateBucket] using hp
    simp [updateBucket, hhole hb]

/-- A bucket of records that stood in order in another bucket, changed at most in what is no number. -/
theorem BucketLaw.of_sublist {k : Fin 64} {b : Bucket} (h : BucketLaw k b) {l : List StationRecord}
    (hl : (l.map fun r => r.number).Sublist ((bucketRecords b).map fun r => r.number)) : BucketLaw k (bucketOf l) := by
  obtain ⟨hbelong, hdistinct, -⟩ := h
  refine ⟨fun r hr => ?_, ?_, bucketOf_primary⟩
  · rw [bucketRecords_bucketOf] at hr
    have hmem := hl.subset (List.mem_map_of_mem hr)
    rw [List.mem_map] at hmem
    obtain ⟨x, hx, hnum⟩ := hmem
    rw [← hnum]
    exact hbelong x hx
  · rw [bucketRecords_bucketOf]
    exact hdistinct.sublist hl

/-! ## One bucket of the table after a change -/

theorem updateStation_bucket (number : Nat) (f : StationRecord → StationRecord) (t : StationTable) (k : Fin 64) :
    (updateStation number f t).buckets[k] =
      if bucketIndex number = k then updateBucket number f t.buckets[k] else t.buckets[k] := by
  change (t.buckets.set _ _)[k] = _
  rw [vget_set]
  split
  · rename_i h
    subst h
    rfl
  · rfl

/-- A new record stands last in its bucket (R59). -/
theorem placeRecord_bucket {r : StationRecord} {t : StationTable} (ht : TableLaw t) (k : Fin 64) :
    bucketRecords (placeRecord r t).buckets[k] =
      if bucketIndex r.number = k then bucketRecords t.buckets[k] ++ [r] else bucketRecords t.buckets[k] := by
  have hhole := (ht.1 (bucketIndex r.number)).2.2
  unfold placeRecord
  dsimp only
  cases hp : t.buckets[bucketIndex r.number].primary with
  | none =>
    change bucketRecords (t.buckets.set _ _)[k] = _
    rw [vget_set]
    split
    · rename_i h
      subst h
      rw [bucketRecords_eq_nil hp (hhole hp)]
      simp only [bucketRecords, hhole hp]
      rfl
    · rfl
  | some x =>
    change bucketRecords (t.buckets.set _ _)[k] = _
    rw [vget_set]
    split
    · rename_i h
      subst h
      simp only [bucketRecords, hp, List.append_assoc]
    · rfl

theorem removeStation_bucket (number : Nat) (t : StationTable) (k : Fin 64) : (removeStation number t).buckets[k] =
    if bucketIndex number = k then keepInBucket (fun r => r.number != number) t.buckets[k] else t.buckets[k] := by
  change (t.buckets.set _ _)[k] = _
  rw [vget_set]
  split
  · rename_i h
    subst h
    rfl
  · rfl

theorem ageTable_bucket (t : StationTable) (k : Fin 64) : (ageTable t).buckets[k] = ageBucket t.buckets[k] := vget_vmap ..

/-! ## The record that a search finds -/

theorem findStation_some {t : StationTable} {n : Nat} {r : StationRecord} (h : findStation t n = some r) :
    r ∈ bucketRecords t.buckets[bucketIndex n] ∧ r.number = n :=
  ⟨List.mem_of_find?_eq_some h, by simpa using List.find?_some h⟩

/-! ## The overflow entries -/

theorem chained_updateStation (number : Nat) (f : StationRecord → StationRecord) (t : StationTable) :
    chained (updateStation number f t) = chained t := by
  have h := sum_vset_add (fun b : Bucket => b.chain.length) t.buckets (bucketIndex number)
    (updateBucket number f t.buckets[bucketIndex number])
  have hlen : (updateBucket number f t.buckets[bucketIndex number]).chain.length = t.buckets[bucketIndex number].chain.length := by
    simp [updateBucket]
  unfold chained
  change ((t.buckets.set _ _).toList.map _).sum = _
  omega

/-! ## The law of the table (R59) -/

theorem TableLaw.update {t : StationTable} (ht : TableLaw t) (number : Nat) {f : StationRecord → StationRecord}
    (hf : ∀ r, (f r).number = r.number) : TableLaw (updateStation number f t) := by
  refine ⟨fun k => ?_, ?_⟩
  · rw [updateStation_bucket]
    split
    · exact (ht.1 k).update number hf
    · exact ht.1 k
  · rw [chained_updateStation]
    exact ht.2

theorem TableLaw.place {t : StationTable} {r : StationRecord} (ht : TableLaw t) (hf : findStation t r.number = none)
    (hroom : hasRoom t r.number = true) : TableLaw (placeRecord r t) := by
  refine ⟨fun k => ⟨?_, ?_, ?_⟩, ?_⟩
  · rw [placeRecord_bucket ht]
    intro x hx
    split at hx
    · rename_i hk
      obtain hx | rfl := by simpa using hx
      · exact (ht.1 k).1 x hx
      · exact congrArg Fin.val hk
    · exact (ht.1 k).1 x hx
  · rw [placeRecord_bucket ht]
    split
    · rename_i hk
      rw [List.map_append, List.nodup_append]
      refine ⟨(ht.1 k).2.1, by simp, ?_⟩
      rintro _ ha _ hb rfl
      obtain ⟨x, hx, hnum⟩ := List.mem_map.mp ha
      subst hk
      rw [findStation_eq_none_iff] at hf
      exact hf x hx (by simpa [hnum] using hb)
    · exact (ht.1 k).2.1
  · unfold placeRecord
    dsimp only
    split
    · intro hp
      change (t.buckets.set _ _)[k].primary = none at hp
      change (t.buckets.set _ _)[k].chain = []
      rw [vget_set] at hp ⊢
      split at hp
      · simp at hp
      · rename_i hk
        rw [if_neg hk]
        exact (ht.1 k).2.2 hp
    · rename_i x hx
      intro hp
      change (t.buckets.set _ _)[k].primary = none at hp
      change (t.buckets.set _ _)[k].chain = []
      rw [vget_set] at hp ⊢
      split at hp
      · rw [hx] at hp
        exact absurd hp (Option.some_ne_none x)
      · rename_i hk
        rw [if_neg hk]
        exact (ht.1 k).2.2 hp
  · have hsum := ht.2
    unfold placeRecord
    dsimp only
    split
    · rename_i hp
      have h := sum_vset_add (fun b : Bucket => b.chain.length) t.buckets (bucketIndex r.number)
        { t.buckets[bucketIndex r.number] with primary := some r }
      unfold chained at hsum ⊢
      dsimp only at h ⊢
      omega
    · rename_i x hp
      have h := sum_vset_add (fun b : Bucket => b.chain.length) t.buckets (bucketIndex r.number)
        { t.buckets[bucketIndex r.number] with chain := t.buckets[bucketIndex r.number].chain ++ [r] }
      have hfree : 0 < t.free := by
        simpa only [hasRoom, hp, Option.isNone_some, Bool.false_or, decide_eq_true_eq] using hroom
      unfold chained at hsum ⊢
      simp only [List.length_append, List.length_singleton] at h
      dsimp only at h ⊢
      omega

theorem TableLaw.remove {t : StationTable} (ht : TableLaw t) (number : Nat) : TableLaw (removeStation number t) := by
  refine ⟨fun k => ?_, ?_⟩
  · rw [removeStation_bucket]
    split
    · exact (ht.1 k).of_sublist (List.filter_sublist.map _)
    · exact ht.1 k
  · have hsum := ht.2
    have h := sum_vset_add (fun b : Bucket => b.chain.length) t.buckets (bucketIndex number)
      (keepInBucket (fun r => r.number != number) t.buckets[bucketIndex number])
    have hle : (keepInBucket (fun r => r.number != number) t.buckets[bucketIndex number]).chain.length ≤
        t.buckets[bucketIndex number].chain.length := by
      rw [chain_length (ht.1 (bucketIndex number)).2.2, keepInBucket, bucketOf_chain_length]
      exact Nat.sub_le_sub_right (List.length_filter_le ..) 1
    unfold chained at hsum ⊢
    change t.free + _ + ((t.buckets.set _ _).toList.map _).sum = 64
    omega

theorem ageBucket_chain_le {k : Fin 64} {b : Bucket} (h : BucketLaw k b) : (ageBucket b).chain.length ≤ b.chain.length := by
  rw [chain_length h.2.2, ageBucket, bucketOf_chain_length, List.length_map]
  exact Nat.sub_le_sub_right (List.length_filter_le ..) 1

theorem TableLaw.age {t : StationTable} (ht : TableLaw t) : TableLaw (ageTable t) := by
  refine ⟨fun k => ?_, ?_⟩
  · rw [ageTable_bucket]
    refine (ht.1 k).of_sublist ?_
    rw [List.map_map]
    exact List.filter_sublist.map _
  · have hsum := ht.2
    have hle : chained (ageTable t) ≤ chained t := by
      have hall (l : List Bucket) (hl : ∀ b ∈ l, (ageBucket b).chain.length ≤ b.chain.length) :
          ((l.map ageBucket).map fun b => b.chain.length).sum ≤ (l.map fun b => b.chain.length).sum := by
        rw [List.map_map]
        exact List.sum_le_sum hl
      have hbuckets := hall t.buckets.toList fun b hb => by
        obtain ⟨i, hi, rfl⟩ := List.mem_iff_getElem.mp hb
        exact ageBucket_chain_le (ht.1 ⟨i, by simpa using hi⟩)
      unfold chained
      exact hbuckets
    change t.free + (chained t - chained (ageTable t)) + chained (ageTable t) = 64
    omega

theorem TableMove.keeps_tableLaw {t u : StationTable} (h : TableMove t u) (ht : TableLaw t) : TableLaw u := by
  cases h with
  | put p hr =>
    unfold putStation
    split
    · exact ht.update p.station fun _ => rfl
    · rename_i hf
      exact ht.place hf (hr hf)
  | delete => exact ht.remove _
  | age => exact ht.age

/-! ## The table after a move of contexts -/

@[simp] theorem leaveList_table (c : Context) (s : State) : (leaveList c s).table = s.table := by
  obtain ⟨g, h⟩ := leaveList_frame c s
  rw [h]

@[simp] theorem unbindTag_table (tag : Nat) (s : State) : (unbindTag tag s).table = s.table := by
  obtain ⟨k, h⟩ := unbindTag_frame tag s
  rw [h]

@[simp] theorem started_table (g : Group) (run : Nat) (f : Context → Context) (s : State) :
    (started g run f s).table = s.table := by
  obtain ⟨oc, j, h⟩ := started_frame g run f s
  rw [h]

@[simp] theorem park_table (n : Head) (k : StoreSlotId) (c : Context) (s : State) : (park n k c s).table = s.table := by
  simp [park]

@[simp] theorem resumeIn_table (c d : Context) (s : State) :
    (resumeIn c d s).table = updateStation c.station (markUsed 0) s.table := rfl

@[simp] theorem freeActive_table (n : Head) (c : Context) (s : State) :
    (freeActive n c s).table = updateStation c.station dropReference s.table := by
  simp [freeActive, dropStation]

@[simp] theorem freeStored_table (k : StoreSlotId) (c : Context) (s : State) :
    (freeStored k c s).table = updateStation c.station dropReference s.table := by
  simp [freeStored, dropStation]

@[simp] theorem waits_table (n : Head) (c : Context) (g : Group) (s : State) : (waits n c g s).table = s.table := rfl

theorem Enrols.keeps_tableLaw {o : Occupations} {number : Nat} {t u : StationTable} (h : Enrols o number t u) (ht : TableLaw t) :
    TableLaw u := by
  obtain ⟨-, rfl⟩ | ⟨r, hf, hroom, rfl, -, rfl⟩ := h
  · exact ht.update _ fun _ => rfl
  · exact ht.place hf hroom

theorem OccMove.keeps_tableLaw {s t : State} (h : OccMove s t) (hs : TableLaw s.table) : TableLaw t.table := by
  cases h with
  | openContext n c tb _ _ _ _ _ _ _ he => exact he.keeps_tableLaw hs
  | touch => exact hs
  | leave => simpa using hs
  | wait => exact hs
  | arriveLast => simpa using hs
  | release => simpa using hs
  | park => simpa using hs
  | unpark => exact hs.update _ fun _ => rfl
  | swap =>
    rw [resumeIn_table, park_table]
    exact hs.update _ fun _ => rfl
  | freeActive =>
    rw [freeActive_table]
    exact hs.update _ fun _ => rfl
  | freeStored =>
    rw [freeStored_table]
    exact hs.update _ fun _ => rfl

theorem starting_table (pending sys clock tide pins choices) : (State.starting pending sys clock tide pins choices).table =
    { buckets := Vector.replicate 64 { primary := none, chain := [] }, free := 64 } := rfl

theorem starting_tableLaw (pending sys clock tide pins choices) :
    TableLaw (State.starting pending sys clock tide pins choices).table := by
  rw [starting_table]
  refine ⟨fun k => ?_, by decide⟩
  rw [show (Vector.replicate 64 ({ primary := none, chain := [] } : Bucket))[k] = { primary := none, chain := [] } by simp]
  exact ⟨by simp [bucketRecords], by simp [bucketRecords], fun _ => rfl⟩

theorem Move.keeps_tableLaw {s t : State} (h : Move s t) (hs : TableLaw s.table) : TableLaw t.table := by
  cases h with
  | alike h => rw [h.table]; exact hs
  | start => exact starting_tableLaw ..
  | table h => exact h.keeps_tableLaw hs
  | occ h => exact h.keeps_tableLaw hs
  | setupHead n p =>
    unfold storeHead
    dsimp only
    split <;> exact hs
  | _ => exact hs

/-- Settles O8: placing, removing, aging and changes in place each keep the law of every bucket and the sum of the entries. -/
theorem stepKeepsTableLaw : Obligations.StepKeepsTableLaw := fun _ _ =>
  step_keeps (P := fun s => TableLaw s.table) fun _ _ h => h.keeps_tableLaw

end Sys2Proof.Machine
end

section
/-! PROOFS. The arrival lists follow the WAITING contexts, and no context takes more samples than its target (O59, first two laws). -/

namespace Sys2Proof.Machine

-- One theorem at a time: side by side, the proofs ask for more threads than the check's memory limit has stacks for.
set_option Elab.async false

/-! ## Members that wait -/

/-- The occupant of a slot waits for a group under a tag (R134). -/
def WaitsFor (a : Option Context) (g : Group) (tag : Nat) : Prop :=
  ∃ c, a = some c ∧ c.tag = tag ∧ c.group = some g ∧ c.state = .waiting

theorem not_waitsFor_none (g : Group) (tag : Nat) : ¬ WaitsFor none g tag := by
  rintro ⟨c, hc, -⟩
  simp at hc

theorem waitsFor_some {c : Context} {g : Group} {tag : Nat} :
    WaitsFor (some c) g tag ↔ c.tag = tag ∧ c.group = some g ∧ c.state = .waiting := by
  simp [WaitsFor]

/-- The list of each group holds the tags of its waiting members, each once, and its timer runs while it holds one. -/
structure Listed (s : State) : Prop where
  mem : ∀ (g : Group) (tag : Nat), tag ∈ s.groups[g].arrivals ↔ ∃ n : Head, WaitsFor s.occ.active[n] g tag
  nodup : ∀ g : Group, s.groups[g].arrivals.Nodup
  timer : ∀ g : Group, s.groups[g].timer = none ↔ s.groups[g].arrivals = []
  joint : ∀ (n : Head) (c : Context), s.occ.active[n] = some c → c.state = .waiting → c.group.isSome

/-- Every list is shorter than its group's target, which is 2 to 4 (R132, R136). -/
def Short (s : State) : Prop :=
  ∀ g : Group, s.groups[g].arrivals.length < s.settings.groups[g].target ∧
    2 ≤ s.settings.groups[g].target ∧ s.settings.groups[g].target ≤ 4

/-- A part that is STARTING has no active context (R181). -/
def NoneAtStart (s : State) : Prop := s.sys.part = .starting → ∀ n : Head, s.occ.active[n] = none

theorem arrivalLaw_iff {s : State} : ArrivalLaw s ↔ Listed s ∧ Short s ∧ NoneAtStart s := by
  constructor
  · rintro ⟨hg, hjoint, hstart⟩
    exact ⟨⟨fun g => (hg g).1, fun g => (hg g).2.1, fun g => (hg g).2.2.2.2, hjoint⟩,
      fun g => ⟨(hg g).2.2.1, (hg g).2.2.2.1⟩, hstart⟩
  · rintro ⟨⟨hmem, hnodup, htimer, hjoint⟩, hshort, hstart⟩
    exact ⟨fun g => ⟨hmem g, hnodup g, (hshort g).1, (hshort g).2, htimer g⟩, hjoint, hstart⟩

/-- In a list with its members the tag of an active context that does not wait does not stand. -/
theorem Listed.not_mem {s : State} (h : Listed s) (ht : TagsApart s.occ) {n : Head} {c : Context}
    (hc : s.occ.active[n] = some c) {g : Group} (hw : ¬ WaitsFor (some c) g c.tag) : c.tag ∉ s.groups[g].arrivals := by
  intro hm
  obtain ⟨m, d, hd, htag, hgroup, hwait⟩ := (h.mem g _).mp hm
  obtain rfl := Place.active.inj (ht (.active m) (.active n) d c hd hc htag)
  obtain rfl := Option.some.inj (hd.symm.trans hc)
  exact hw (waitsFor_some.mpr ⟨rfl, hgroup, hwait⟩)

/-! ## The law after a change in one slot -/

/-- The groups stand as they were, and so does who waits. -/
theorem Listed.of_same {s t : State} (h : Listed s) (hg : t.groups = s.groups)
    (hw : ∀ (n : Head) g tag, WaitsFor t.occ.active[n] g tag ↔ WaitsFor s.occ.active[n] g tag)
    (hj : ∀ (n : Head) (c : Context), t.occ.active[n] = some c → c.state = .waiting → c.group.isSome) : Listed t where
  mem g tag := by simp only [hg, hw, h.mem]
  nodup g := hg ▸ h.nodup g
  timer g := hg ▸ h.timer g
  joint := hj

/-- A slot whose occupant waited neither before nor after, or waits as before. -/
theorem Listed.set {s : State} (h : Listed s) (n : Head) {a : Option Context} {t : State} (hg : t.groups = s.groups)
    (ha : t.occ.active = s.occ.active.set n a) (hw : ∀ g tag, WaitsFor a g tag ↔ WaitsFor s.occ.active[n] g tag)
    (hj : ∀ c, a = some c → c.state = .waiting → c.group.isSome) : Listed t := by
  refine h.of_same hg (fun m g tag => ?_) fun m c hc => ?_
  · rw [ha, vget_set]
    split
    · rename_i hm
      subst hm
      exact hw g tag
    · rfl
  · rw [ha, vget_set] at hc
    split at hc
    · exact hj c hc
    · exact h.joint m c hc

/-- A slot that a new occupant takes, who does not wait. -/
theorem Listed.take {s : State} (h : Listed s) {n : Head} {d : Context} {t : State} (hg : t.groups = s.groups)
    (ha : t.occ.active = s.occ.active.set n (some d)) (hn : s.occ.active[n] = none) (hd : d.state ≠ .waiting) : Listed t := by
  refine h.set n hg ha (fun g tag => ?_) fun c hc hw => ?_
  · rw [hn, waitsFor_some]
    exact iff_of_false (fun hw => hd hw.2.2) (not_waitsFor_none g tag)
  · obtain rfl := Option.some.inj hc
    exact absurd hw hd

/-! ## A member that leaves its list -/

/-- What leaveList makes of a group (R137, R138). -/
theorem leaveList_arrivals (c : Context) (s : State) (g : Group) : (leaveList c s).groups[g].arrivals =
    if c.group = some g then s.groups[g].arrivals.filter (· != c.tag) else s.groups[g].arrivals := by
  unfold leaveList
  split
  · rename_i hc
    simp [hc]
  · rename_i k hc
    rw [hc]
    dsimp only
    split
    · change (s.groups.set k _)[g].arrivals = _
      rw [vget_set]
      by_cases hk : k = g
      · subst hk
        simp
      · simp [hk]
    · rename_i hm
      split
      · rename_i hk
        obtain rfl := Option.some.inj hk
        rw [List.filter_eq_self.mpr]
        intro tag htag
        simpa using fun h : tag = c.tag => hm (h ▸ htag)
      · rfl

theorem leaveList_timer (c : Context) {s : State} (h : ∀ g : Group, s.groups[g].timer = none ↔ s.groups[g].arrivals = [])
    (g : Group) : (leaveList c s).groups[g].timer = none ↔ (leaveList c s).groups[g].arrivals = [] := by
  unfold leaveList
  split
  · exact h g
  · rename_i k hc
    dsimp only
    split
    · rename_i hm
      change (s.groups.set k _)[g].timer = none ↔ (s.groups.set k _)[g].arrivals = []
      rw [vget_set]
      split
      · rename_i hk
        subst hk
        have hne : s.groups[k].timer ≠ none := fun ht => by
          rw [(h k).mp ht] at hm
          simp at hm
        dsimp only
        split
        · rename_i he
          exact iff_of_true rfl (List.isEmpty_iff.mp he)
        · rename_i he
          exact iff_of_false hne fun hnil => he (List.isEmpty_iff.mpr hnil)
      · exact h g
    · exact h g

theorem leaveList_congr {c d : Context} (ht : d.tag = c.tag) (hg : d.group = c.group) (s : State) :
    leaveList d s = leaveList c s := by
  unfold leaveList
  rw [ht, hg]

theorem leaveList_setActive (c : Context) (n : Head) (a : Option Context) (s : State) :
    (leaveList c (setActive n a s)).groups = (leaveList c s).groups := by
  unfold leaveList
  split
  · rfl
  · rename_i g _
    dsimp only
    by_cases hm : c.tag ∈ s.groups[g].arrivals
    · rw [if_pos hm, if_pos (show c.tag ∈ (setActive n a s).groups[g].arrivals from hm)]
      rfl
    · rw [if_neg hm, if_neg (show c.tag ∉ (setActive n a s).groups[g].arrivals from hm)]
      rfl

/-- An active context that leaves its list, and in whose slot no waiting one stands after. -/
theorem Listed.quit {s : State} (h : Listed s) (ht : TagsApart s.occ) {n : Head} {c : Context} {a : Option Context} {t : State}
    (hc : s.occ.active[n] = some c) (hg : t.groups = (leaveList c s).groups) (ha : t.occ.active = s.occ.active.set n a)
    (hw : ∀ d, a = some d → d.state ≠ .waiting) : Listed t := by
  have hslot (g : Group) (tag : Nat) : ¬ WaitsFor a g tag := by
    rintro ⟨d, hd, -, -, hwait⟩
    exact hw d hd hwait
  have hothers (g : Group) (tag : Nat) : (∃ m : Head, WaitsFor t.occ.active[m] g tag) ↔
      (∃ m : Head, WaitsFor s.occ.active[m] g tag) ∧ ¬ WaitsFor (some c) g tag := by
    constructor
    · rintro ⟨m, hm⟩
      rw [ha, vget_set] at hm
      split at hm
      · exact absurd hm (hslot g tag)
      · rename_i hnm
        refine ⟨⟨m, hm⟩, fun hcw => hnm ?_⟩
        obtain ⟨d, hd, htag, -, -⟩ := hm
        exact (Place.active.inj (ht (.active m) (.active n) d c hd hc (htag.trans (waitsFor_some.mp hcw).1.symm))).symm
    · rintro ⟨⟨m, hm⟩, hcw⟩
      refine ⟨m, ?_⟩
      rw [ha, vget_set, if_neg]
      · exact hm
      · rintro rfl
        exact hcw (hc ▸ hm)
  refine ⟨fun g tag => ?_, fun g => ?_, fun g => hg ▸ leaveList_timer c h.timer g, fun m d hd => ?_⟩
  · rw [hothers, ← h.mem, hg, leaveList_arrivals]
    by_cases hcg : c.group = some g
    · rw [if_pos hcg, List.mem_filter]
      refine and_congr_right fun hm => ?_
      have hiff : WaitsFor (some c) g tag ↔ tag = c.tag :=
        ⟨fun hcw => (waitsFor_some.mp hcw).1.symm, fun htag => by
          subst htag
          by_contra hcw
          exact h.not_mem ht hc hcw hm⟩
      simp [hiff]
    · rw [if_neg hcg]
      exact (and_iff_left fun hcw => hcg (waitsFor_some.mp hcw).2.1).symm
  · rw [hg, leaveList_arrivals]
    split
    · exact (h.nodup g).filter _
    · exact h.nodup g
  · rw [ha, vget_set] at hd
    split at hd
    · exact fun hwait => absurd hwait (hw d hd)
    · exact h.joint m d hd

/-! ## A member that arrives -/

theorem waits_arrivals (n : Head) (c : Context) (g : Group) (s : State) (k : Group) : (waits n c g s).groups[k].arrivals =
    if g = k then s.groups[g].arrivals ++ [c.tag] else s.groups[k].arrivals := by
  change (s.groups.set g _)[k].arrivals = _
  rw [vget_set]
  split <;> rfl

theorem waits_timer (n : Head) (c : Context) (g : Group) {s : State}
    (h : ∀ g : Group, s.groups[g].timer = none ↔ s.groups[g].arrivals = []) (k : Group) :
    (waits n c g s).groups[k].timer = none ↔ (waits n c g s).groups[k].arrivals = [] := by
  change (s.groups.set g _)[k].timer = none ↔ (s.groups.set g _)[k].arrivals = []
  rw [vget_set]
  split
  · refine iff_of_false ?_ (by simp)
    dsimp only
    split
    · simp
    · rename_i he
      exact fun ht => he (List.isEmpty_iff.mpr ((h g).mp ht))
  · exact h k

theorem Listed.wait {s : State} (h : Listed s) (ht : TagsApart s.occ) {n : Head} {c : Context} {g : Group}
    (hc : s.occ.active[n] = some c) (hw : c.state ≠ .waiting) (hg : c.group = some g) : Listed (waits n c g s) := by
  have hactive (m : Head) : (waits n c g s).occ.active[m] =
      if n = m then some { c with state := .waiting } else s.occ.active[m] := vget_set ..
  have hnot (k : Group) (tag : Nat) : ¬ WaitsFor (some c) k tag := fun hcw => hw (waitsFor_some.mp hcw).2.2
  have hall (k : Group) (tag : Nat) : (∃ m : Head, WaitsFor (waits n c g s).occ.active[m] k tag) ↔
      (∃ m : Head, WaitsFor s.occ.active[m] k tag) ∨ g = k ∧ tag = c.tag := by
    constructor
    · rintro ⟨m, hm⟩
      rw [hactive] at hm
      split at hm
      · obtain ⟨htag, hgroup, -⟩ := waitsFor_some.mp hm
        exact .inr ⟨Option.some.inj (hg.symm.trans hgroup), htag.symm⟩
      · exact .inl ⟨m, hm⟩
    · rintro (⟨m, hm⟩ | ⟨rfl, rfl⟩)
      · refine ⟨m, ?_⟩
        rw [hactive, if_neg]
        · exact hm
        · rintro rfl
          exact hnot k tag (hc ▸ hm)
      · refine ⟨n, ?_⟩
        rw [hactive, if_pos rfl]
        exact waitsFor_some.mpr ⟨rfl, hg, rfl⟩
  refine ⟨fun k tag => ?_, fun k => ?_, waits_timer n c g h.timer, fun m d hd hwait => ?_⟩
  · rw [hall, waits_arrivals, ← h.mem]
    by_cases hk : g = k
    · subst hk
      simp
    · simp [hk]
  · rw [waits_arrivals]
    split
    · rw [List.nodup_append]
      refine ⟨h.nodup g, by simp, fun x hx y hy => ?_⟩
      obtain rfl := List.mem_singleton.mp hy
      rintro rfl
      exact h.not_mem ht hc (hnot g _) hx
    · exact h.nodup k
  · rw [hactive] at hd
    split at hd
    · obtain rfl := Option.some.inj hd
      exact hg ▸ rfl
    · exact h.joint m d hd hwait

/-! ## The members of a list enter RUNNING -/

theorem startMember_runs (f : Context → Context) {s : State} (ht : TagsApart s.occ) {n : Head} {c : Context}
    (hc : s.occ.active[n] = some c) : (startMember f s c.tag).occ.active[n] = some (running (now s) (f c)) := by
  unfold startMember
  split
  · rename_i hnone
    exact absurd rfl (activeHead_none hnone n c hc)
  · rename_i m hm
    obtain ⟨d, hd, htag⟩ := activeHead_some hm
    obtain rfl := Place.active.inj (ht (.active m) (.active n) d c hd hc htag)
    rw [hc]
    exact vget_set_self ..

/-- Once the members of a list have started, none that carries a tag of the list waits. -/
theorem startMembers_awake {f : Context → Context} (hf : ∀ c, Kin c (f c) ∧ (f c).acc.accepted = c.acc.accepted) (l : List Nat)
    {s : State} (ht : TagsApart s.occ) {n : Head} {d : Context} (hd : (l.foldl (startMember f) s).occ.active[n] = some d)
    (hl : d.tag ∈ l) : d.state ≠ .waiting := by
  induction l generalizing s with
  | nil => simp at hl
  | cons tag l ih =>
    have hnext : TagsApart (startMember f s tag).occ := ht.of_starts (startMember_among hf s tag)
    by_cases hmem : d.tag ∈ l
    · exact ih hnext hd hmem
    · obtain rfl : d.tag = tag := (List.mem_cons.mp hl).resolve_right hmem
      have hlast : (startMember f s d.tag).occ.active[n] = some d := by
        obtain hsame | ⟨c, d', -, hd', hcl, hs⟩ := (startMembers_among hf l (startMember f s d.tag)).2 n
        · exact hsame ▸ hd
        · obtain rfl := Option.some.inj (hd'.symm.trans hd)
          exact absurd (hs.tag ▸ hcl) hmem
      obtain hsame | ⟨c, d', hc, hd', -, hs⟩ := (startMember_among hf s d.tag).2 n
      · have hc : s.occ.active[n] = some d := hsame ▸ hlast
        have hrun := Option.some.inj (hlast.symm.trans (startMember_runs f ht hc))
        rw [hrun]
        simp [running]
      · obtain rfl := Option.some.inj (hd'.symm.trans hlast)
        obtain ⟨b, e, hrun⟩ := hs.runs
        simp [hrun]

theorem started_groups (g : Group) (run : Nat) (f : Context → Context) (s : State) (k : Group) :
    (started g run f s).groups[k] = if g = k then { arrivals := [], timer := none, run := run } else s.groups[k] := by
  obtain ⟨oc, h⟩ := startMembers_frame f s.groups[g].arrivals s
  unfold started
  rw [h]
  exact vget_set ..

section
variable {f : Context → Context} (hf : ∀ c, Kin c (f c) ∧ (f c).acc.accepted = c.acc.accepted)
include hf

/-- After a start of the members of a group, those of the other group wait as before, and nobody else does. -/
theorem started_waits {s : State} (h : Listed s) (ht : TagsApart s.occ) (g : Group) (run : Nat) (n : Head) (k : Group) (tag : Nat) :
    WaitsFor (started g run f s).occ.active[n] k tag ↔ g ≠ k ∧ WaitsFor s.occ.active[n] k tag := by
  constructor
  · rintro ⟨d, hd, rfl, hgroup, hwait⟩
    obtain hsame | ⟨c, d', -, hd', -, hs⟩ := (started_among hf g run s).2 n
    · have hc : s.occ.active[n] = some d := hsame ▸ hd
      have hw : WaitsFor s.occ.active[n] k d.tag := ⟨d, hc, rfl, hgroup, hwait⟩
      refine ⟨?_, hw⟩
      rintro rfl
      exact startMembers_awake hf _ ht hd ((h.mem g _).mpr ⟨n, hw⟩) hwait
    · obtain rfl := Option.some.inj (hd'.symm.trans hd)
      obtain ⟨b, e, hrun⟩ := hs.runs
      simp [hrun] at hwait
  · rintro ⟨hk, c, hc, rfl, hgroup, hwait⟩
    obtain hsame | ⟨c', d, hc', -, hl, -⟩ := (started_among hf g run s).2 n
    · exact ⟨c, hsame.trans hc, rfl, hgroup, hwait⟩
    · obtain rfl := Option.some.inj (hc'.symm.trans hc)
      refine absurd hl (h.not_mem ht hc fun hw => hk ?_)
      exact Option.some.inj ((waitsFor_some.mp hw).2.1.symm.trans hgroup)

theorem Listed.start {s : State} (h : Listed s) (ht : TagsApart s.occ) (g : Group) (run : Nat) : Listed (started g run f s) := by
  refine ⟨fun k tag => ?_, fun k => ?_, fun k => ?_, fun n d hd hwait => ?_⟩
  · simp only [started_waits hf h ht, started_groups]
    by_cases hk : g = k
    · simp [hk]
    · rw [if_neg hk, h.mem]
      simp [hk]
  · rw [started_groups]
    split
    · exact List.nodup_nil
    · exact h.nodup k
  · rw [started_groups]
    split
    · simp
    · exact h.timer k
  · obtain hsame | ⟨c, d', -, hd', -, hs⟩ := (started_among hf g run s).2 n
    · exact h.joint n d (hsame ▸ hd) hwait
    · obtain rfl := Option.some.inj (hd'.symm.trans hd)
      obtain ⟨b, e, hrun⟩ := hs.runs
      simp [hrun] at hwait

end

/-! ## The arrival law after a move of contexts (R132, R134 to R137) -/

theorem freeActive_groups (n : Head) (c : Context) (s : State) : (freeActive n c s).groups = (leaveList c s).groups := by
  obtain ⟨k, h⟩ := unbindTag_frame c.tag (dropStation c.station (leaveList c s))
  simp only [freeActive, h]
  rfl

theorem freeActive_active (n : Head) (c : Context) (s : State) : (freeActive n c s).occ.active = s.occ.active.set n none := by
  have h : (unbindTag c.tag (dropStation c.station (leaveList c s))).occ = s.occ := by simp [dropStation]
  simp only [freeActive]
  change (unbindTag c.tag (dropStation c.station (leaveList c s))).occ.active.set n none = _
  rw [h]

theorem freeStored_groups (k : StoreSlotId) (c : Context) (s : State) : (freeStored k c s).groups = s.groups := by
  obtain ⟨oc, tb, u, h⟩ := freeStored_frame k c s
  rw [h]

theorem freeStored_active (k : StoreSlotId) (c : Context) (s : State) : (freeStored k c s).occ.active = s.occ.active := by
  have h : (unbindTag c.tag (dropStation c.station s)).occ = s.occ := by simp [dropStation]
  change (unbindTag c.tag (dropStation c.station s)).occ.active = _
  rw [h]

theorem park_groups (n : Head) (k : StoreSlotId) (c : Context) (s : State) : (park n k c s).groups = (leaveList c s).groups := rfl

theorem park_active (n : Head) (k : StoreSlotId) (c : Context) (s : State) :
    (park n k c s).occ.active = s.occ.active.set n none := by
  change (leaveList c s).occ.active.set n none = _
  rw [leaveList_occ]

theorem Listed.park {s : State} (h : Listed s) (ht : TagsApart s.occ) {n : Head} {c : Context} (k : StoreSlotId)
    (hc : s.occ.active[n] = some c) : Listed (park n k c s) :=
  h.quit ht hc (park_groups ..) (park_active ..) (by simp)

theorem OccMove.keeps_listed {s t : State} (h : OccMove s t) (hs : SlotLaw s.occ) (ht : TagsApart s.occ) (hl : Listed s) :
    Listed t := by
  cases h with
  | openContext n c tb hr hn htag hh hf =>
    exact Listed.take (t := setActive n (some c) (setTable tb s)) hl rfl rfl hn hf.1
  | touch n hc hf hw =>
    rename_i c d
    refine Listed.set (a := some d) hl n rfl rfl (fun g tag => ?_) fun e he hwait => ?_
    · rw [hc, waitsFor_some, waitsFor_some, hf.tag, hf.group, hw]
    · obtain rfl := Option.some.inj he
      exact hf.group ▸ hl.joint n c hc (hw.mp hwait)
  | leave n hc hf hw =>
    rename_i c d
    refine hl.quit (a := some d) ht hc ?_ (by simp [setActive]) fun e he => Option.some.inj he ▸ hw
    rw [leaveList_congr hf.tag hf.group, leaveList_setActive]
  | wait n hc hfoot hg hlen => exact hl.wait ht hc hfoot.1 hg
  | arriveLast n run f hf hc hfoot hg =>
    exact (hl.wait ht hc hfoot.1 hg).start hf (ht.set_active (contextAt_waits n _ _ s) hc rfl) _ run
  | release g run f hf => exact hl.start hf ht g run
  | park n k hc hk hcomp => exact hl.park ht k hc
  | unpark k hk hn hr hd => exact hl.take rfl rfl hn hd.afoot.1
  | swap n k ha hb hh hcomp hr hd =>
    rename_i a b d
    refine (hl.park ht k ha).take (n := b.head) rfl rfl ?_ hd.afoot.1
    have hn : b.head = n := hh.symm.trans (hs.1 n a ha).1
    rw [park_active, hn]
    exact vget_set_self ..
  | freeActive n hc => exact hl.quit ht hc (freeActive_groups ..) (freeActive_active ..) (by simp)
  | freeStored k hc =>
    refine hl.of_same (freeStored_groups ..) (fun n g tag => ?_) ?_
    · rw [freeStored_active]
    · rw [freeStored_active]
      exact hl.joint

theorem leaveList_arrivals_le (c : Context) (s : State) (g : Group) :
    (leaveList c s).groups[g].arrivals.length ≤ s.groups[g].arrivals.length := by
  rw [leaveList_arrivals]
  split
  · exact List.length_filter_le ..
  · exact le_rfl

theorem started_arrivals_le (g : Group) (run : Nat) (f : Context → Context) (s : State) (k : Group) :
    (started g run f s).groups[k].arrivals.length ≤ s.groups[k].arrivals.length := by
  rw [started_groups]
  split
  · exact Nat.zero_le _
  · exact le_rfl

/-- No move of contexts but an arrival short of the target makes a list longer. -/
theorem OccMove.arrivals_le {s t : State} (h : OccMove s t) (k : Group) :
    t.groups[k].arrivals.length ≤ s.groups[k].arrivals.length ∨
      t.groups[k].arrivals.length < s.settings.groups[k].target := by
  cases h with
  | openContext | touch | unpark => exact .inl le_rfl
  | leave n hc hf hw => exact .inl (leaveList_arrivals_le _ (setActive n _ s) k)
  | wait n hc hfoot hg hlen =>
    rename_i g
    rw [waits_arrivals]
    by_cases hk : g = k
    · subst hk
      simp only [if_true, List.length_append, List.length_singleton]
      exact .inr hlen
    · rw [if_neg hk]
      exact .inl le_rfl
  | arriveLast n run f hf hc hfoot hg =>
    left
    rename_i c g
    rw [started_groups]
    split
    · exact Nat.zero_le _
    · rename_i hk
      rw [waits_arrivals, if_neg hk]
  | release g run f hf => exact .inl (started_arrivals_le ..)
  | park n k' hc => exact .inl (leaveList_arrivals_le _ s k)
  | swap n k' ha => exact .inl (leaveList_arrivals_le _ s k)
  | freeActive n hc =>
    rw [freeActive_groups]
    exact .inl (leaveList_arrivals_le _ s k)
  | freeStored k' hc =>
    rw [freeStored_groups]
    exact .inl le_rfl

theorem OccMove.keeps_short {s t : State} (h : OccMove s t) (hs : Short s) : Short t := by
  intro g
  obtain ⟨oc, j, tb, k, rfl, -⟩ := h.contextsOnly
  obtain ⟨hlen, htarget⟩ := hs g
  refine ⟨?_, htarget⟩
  obtain hle | hlt := h.arrivals_le g
  · exact lt_of_le_of_lt hle hlen
  · exact hlt

theorem OccMove.keeps_noneAtStart {s t : State} (h : OccMove s t) (hs : NoneAtStart s) : NoneAtStart t := by
  intro hpart
  obtain ⟨oc, j, tb, k, ht, -⟩ := h.contextsOnly
  have hstart : s.sys.part = .starting := by rwa [ht] at hpart
  have hnone := hs hstart
  cases h with
  | openContext n c tb hr | unpark k hk hn hr | swap n k ha hb hh hcomp hr => simp [hstart] at hr
  | touch n hc | leave n hc | wait n hc | arriveLast n run f hf hc | park n k hc | freeActive n hc =>
    rw [hnone n] at hc
    simp at hc
  | release g run f hf =>
    intro n
    obtain hsame | ⟨c, d, hc, -⟩ := (started_among hf g run s).2 n
    · exact hsame.trans (hnone n)
    · rw [hnone n] at hc
      simp at hc
  | freeStored k hc =>
    rw [freeStored_active]
    exact hnone

theorem OccMove.keeps_arrivalLaw {s t : State} (h : OccMove s t) (hs : SlotLaw s.occ) (ht : TagsApart s.occ) (hl : ArrivalLaw s) :
    ArrivalLaw t := by
  rw [arrivalLaw_iff] at hl ⊢
  obtain ⟨hlisted, hshort, hstart⟩ := hl
  exact ⟨h.keeps_listed hs ht hlisted, h.keeps_short hshort, h.keeps_noneAtStart hstart⟩

/-! ## The arrival law after any move -/

theorem ArrivalLaw.congr {s t : State} (h : ArrivalLaw s) (ha : t.occ.active = s.occ.active) (hg : t.groups = s.groups)
    (ht : t.settings.groups = s.settings.groups) (hp : t.sys.part = s.sys.part) : ArrivalLaw t := by
  unfold ArrivalLaw
  rw [ha, hg, ht, hp]
  exact h

theorem groupSettingsOk_target {target wait : Nat} (h : groupSettingsOk target wait = true) : 2 ≤ target ∧ target ≤ 4 := by
  simp only [groupSettingsOk, between, Bool.and_eq_true, decide_eq_true_eq] at h
  exact h.1

theorem settingsOk_groups {t : Settings} (h : settingsOk t = true) (g : Group) :
    groupSettingsOk t.groups[g].target t.groups[g].waitLimit = true := by
  have hall : t.groups.toList.all (fun g => groupSettingsOk g.target g.waitLimit) = true := by
    simp only [settingsOk, Bool.and_eq_true] at h
    tauto
  exact List.all_eq_true.mp hall _ (by simp)

theorem factory_target : ∀ g : Group, Config.factory.groups[g].target = 2 := by decide

theorem loadedSettings_target (i : Image) (g : Group) :
    2 ≤ (loadedSettings i).groups[g].target ∧ (loadedSettings i).groups[g].target ≤ 4 := by
  unfold loadedSettings
  split
  · rename_i hi
    simp only [imageUsable, Bool.and_eq_true] at hi
    exact groupSettingsOk_target (settingsOk_groups hi.1 g)
  · rw [factory_target]
    exact ⟨le_rfl, by decide⟩

theorem starting_arrivalLaw (pending sys clock tide pins choices) : ArrivalLaw (State.starting pending sys clock tide pins choices) := by
  have hnone (n : Head) : (State.starting pending sys clock tide pins choices).occ.active[n] = none := by simp [State.starting]
  have hidle (g : Group) : (State.starting pending sys clock tide pins choices).groups[g] =
      { arrivals := [], timer := none, run := 0 } := by simp [State.starting]
  have htarget (g : Group) : (State.starting pending sys clock tide pins choices).settings.groups[g].target = 2 :=
    factory_target g
  rw [arrivalLaw_iff]
  refine ⟨⟨fun g tag => ?_, fun g => ?_, fun g => ?_, fun n c hc => ?_⟩, fun g => ?_, fun _ => hnone⟩
  · simp only [hidle, hnone, not_waitsFor_none]
    simp
  · simp [hidle]
  · simp [hidle]
  · simp [hnone] at hc
  · rw [hidle, htarget]
    decide

theorem takeSettings_arrivalLaw {s : State} (hp : s.sys.part = .starting) (h : ArrivalLaw s) : ArrivalLaw (takeSettings s) := by
  rw [arrivalLaw_iff] at h ⊢
  obtain ⟨hlisted, hshort, hstart⟩ := h
  have hnone := hstart hp
  refine ⟨hlisted.of_same rfl (fun _ _ _ => Iff.rfl) hlisted.joint, fun g => ?_, fun hr => by simp [takeSettings] at hr⟩
  have hempty : s.groups[g].arrivals = [] := by
    rw [List.eq_nil_iff_forall_not_mem]
    intro tag hm
    obtain ⟨n, hn⟩ := (hlisted.mem g tag).mp hm
    rw [hnone n] at hn
    exact not_waitsFor_none g tag hn
  obtain ⟨hlo, hhi⟩ := loadedSettings_target s.sys.image g
  refine ⟨?_, hlo, hhi⟩
  change s.groups[g].arrivals.length < (loadedSettings s.sys.image).groups[g].target
  rw [hempty]
  simp only [List.length_nil]
  omega

theorem applyStep_arrivalLaw (d : Int) {s : State} (h : ArrivalLaw s) : ArrivalLaw (applyStep d s) := by
  rw [arrivalLaw_iff] at h ⊢
  obtain ⟨hlisted, hshort, hstart⟩ := h
  have hgroup (g : Group) : (applyStep d s).groups[g].arrivals = s.groups[g].arrivals ∧
      ((applyStep d s).groups[g].timer = none ↔ s.groups[g].timer = none) := by
    have : (applyStep d s).groups[g] = { s.groups[g] with timer := s.groups[g].timer.map (· + d) } := vget_vmap ..
    rw [this]
    simp
  have hwaits (n : Head) (g : Group) (tag : Nat) : WaitsFor (applyStep d s).occ.active[n] g tag ↔ WaitsFor s.occ.active[n] g tag := by
    rw [applyStep_active]
    cases s.occ.active[n] with
    | none => rfl
    | some c =>
      have hk := moveContext_kin d c
      rw [Option.map_some, waitsFor_some, waitsFor_some, hk.tag, hk.group, (moveContext_state d c).1]
  refine ⟨⟨fun g tag => ?_, fun g => ?_, fun g => ?_, fun n c hc hw => ?_⟩, fun g => ?_, fun hp n => ?_⟩
  · simp only [hgroup, hwaits, hlisted.mem]
  · rw [(hgroup g).1]
    exact hlisted.nodup g
  · rw [(hgroup g).1, (hgroup g).2]
    exact hlisted.timer g
  · rw [applyStep_active, Option.map_eq_some_iff] at hc
    obtain ⟨c', hc', rfl⟩ := hc
    rw [(moveContext_kin d c').group]
    exact hlisted.joint n c' hc' ((moveContext_state d c').1.mp hw)
  · rw [(hgroup g).1]
    exact hshort g
  · rw [applyStep_active, hstart hp n]
    rfl

theorem storeGroup_arrivalLaw (g : Group) {target wait : Nat} {s : State} (hok : groupSettingsOk target wait = true)
    (ha : s.groups[g].arrivals = []) (h : ArrivalLaw s) : ArrivalLaw (storeGroup g (some (target, wait)) s) := by
  rw [arrivalLaw_iff] at h ⊢
  obtain ⟨hlisted, hshort, hstart⟩ := h
  refine ⟨hlisted.of_same rfl (fun _ _ _ => Iff.rfl) hlisted.joint, fun k => ?_, hstart⟩
  obtain ⟨hlo, hhi⟩ := groupSettingsOk_target hok
  change s.groups[k].arrivals.length < (s.settings.groups.set g { target := target, waitLimit := wait })[k].target ∧
    2 ≤ (s.settings.groups.set g { target := target, waitLimit := wait })[k].target ∧
    (s.settings.groups.set g { target := target, waitLimit := wait })[k].target ≤ 4
  rw [vget_set]
  split
  · rename_i hk
    subst hk
    rw [ha]
    exact ⟨by simp only [List.length_nil]; omega, hlo, hhi⟩
  · exact hshort k

theorem Move.keeps_arrivalLaw {s t : State} (h : Move s t) (hs : SlotLaw s.occ) (ht : TagsApart s.occ) (hl : ArrivalLaw s) :
    ArrivalLaw t := by
  cases h with
  | alike h => exact hl.congr h.active h.groups h.targets h.part
  | start => exact starting_arrivalLaw ..
  | load hp => exact takeSettings_arrivalLaw hp hl
  | setupHead n p =>
    unfold storeHead
    dsimp only
    split <;> exact hl.congr rfl rfl rfl rfl
  | clockStep d => exact applyStep_arrivalLaw d hl
  | groupSet g target wait hok ha => exact storeGroup_arrivalLaw g hok ha hl
  | occ h => exact h.keeps_arrivalLaw hs ht hl
  | _ => exact hl.congr rfl rfl rfl rfl

/-! ## The target of a context (R83, R88) -/

/-- The law of TargetLaw for one context. -/
def OnTarget (c : Context) : Prop :=
  10 ≤ c.policy.target ∧ c.acc.accepted ≤ c.policy.target ∧ (¬ IsComplete c → c.acc.accepted < c.policy.target)

theorem targetLaw_iff {o : Occupations} : TargetLaw o ↔ ∀ p c, contextAt o p = some c → OnTarget c := by
  have hlaw (c : Context) : (10 ≤ c.policy.target ∧ c.acc.accepted ≤ c.policy.target ∧
      ((∀ w, c.state ≠ .complete w) → c.acc.accepted < c.policy.target)) ↔ OnTarget c := by
    simp [OnTarget, IsComplete]
  constructor
  · exact fun h p c hc => (hlaw c).mp (h (p, c) (mem_liveContexts.mpr hc))
  · rintro h ⟨p, c⟩ hc
    exact (hlaw c).mpr (h p c (mem_liveContexts.mp hc))

theorem OnTarget.follows {c d : Context} (h : OnTarget c) (hf : Follows c d) : OnTarget d := by
  obtain ⟨hten, hle, hlt⟩ := h
  have hcomp : ¬ IsComplete d → ¬ IsComplete c := mt hf.complete
  unfold OnTarget
  rw [hf.policy]
  obtain ha | ⟨hc, ha, hd⟩ := hf.accepted
  · rw [ha]
    exact ⟨hten, hle, fun hd => hlt (hcomp hd)⟩
  · rw [hf.policy] at hd
    have := hlt hc
    exact ⟨hten, by omega, hd⟩

/-- A context that is not COMPLETE goes into any state with its count and its policy. -/
theorem OnTarget.enters {c d : Context} (h : OnTarget c) (hc : ¬ IsComplete c) (hp : d.policy = c.policy)
    (ha : d.acc.accepted = c.acc.accepted) : OnTarget d := by
  obtain ⟨hten, hle, hlt⟩ := h
  unfold OnTarget
  rw [hp, ha]
  exact ⟨hten, hle, fun _ => hlt hc⟩

theorem not_isComplete_of_waiting {c : Context} (h : c.state = .waiting) : ¬ IsComplete c := by
  rintro ⟨w, hw⟩
  simp [h] at hw

theorem not_isComplete_of_parked {c : Context} (h : c.state = .parked) : ¬ IsComplete c := by
  rintro ⟨w, hw⟩
  simp [h] at hw

theorem TargetLaw.of_each {o o' : Occupations} (h : TargetLaw o)
    (hc : ∀ p d, contextAt o' p = some d → OnTarget d ∨ contextAt o p = some d) : TargetLaw o' := by
  rw [targetLaw_iff] at h ⊢
  intro p d hd
  obtain hon | hold := hc p d hd
  · exact hon
  · exact h p d hold

theorem TargetLaw.set_active {o o' : Occupations} {n : Head} {d : Context} (ho : TargetLaw o)
    (h : ∀ p, contextAt o' p = if p = .active n then some d else contextAt o p) (hd : OnTarget d) : TargetLaw o' := by
  refine ho.of_each fun p e he => ?_
  rw [h] at he
  split at he
  · exact .inl (Option.some.inj he ▸ hd)
  · exact .inr he

/-- The members that start are on the list, so they waited, so none of them is COMPLETE. -/
theorem TargetLaw.start {s : State} (ho : TargetLaw s.occ) (hl : Listed s) (ht : TagsApart s.occ) {f : Context → Context}
    (hf : ∀ c, Kin c (f c) ∧ (f c).acc.accepted = c.acc.accepted) (g : Group) (run : Nat) : TargetLaw (started g run f s).occ := by
  refine ho.of_each fun p d hd => ?_
  obtain hsame | ⟨n, c, d', rfl, hc, hd', hmem, hs⟩ := (started_among hf g run s).contextAt p
  · exact .inr (hsame ▸ hd)
  · left
    obtain rfl := Option.some.inj (hd'.symm.trans hd)
    have hwait : c.state = .waiting := by
      by_contra hw
      exact hl.not_mem ht (n := n) hc (fun h => hw (waitsFor_some.mp h).2.2) hmem
    exact (targetLaw_iff.mp ho _ c hc).enters (not_isComplete_of_waiting hwait) hs.policy hs.accepted

theorem OccMove.keeps_targetLaw {s t : State} (h : OccMove s t) (hs : SlotLaw s.occ) (ht : TagsApart s.occ) (hl : Listed s)
    (ho : TargetLaw s.occ) : TargetLaw t.occ := by
  have hon := targetLaw_iff.mp ho
  cases h with
  | openContext n c tb hr hn htag hh hf ha hp =>
    refine ho.set_active (contextAt_setActive n (some c) (setTable tb s)) ?_
    have hten : 10 ≤ c.policy.target := by
      obtain hten | ⟨⟨p, x⟩, hx, hpol⟩ := hp
      · exact hten
      · exact hpol ▸ (hon p x (mem_liveContexts.mp hx)).1
    exact ⟨hten, by omega, fun _ => by omega⟩
  | touch n hc hf hw => exact ho.set_active (contextAt_setActive n _ s) ((hon (.active n) _ hc).follows hf)
  | leave n hc hf hw => exact ho.set_active (contextAt_leave n _ s) ((hon (.active n) _ hc).follows hf)
  | wait n hc hfoot hg hlen =>
    exact ho.set_active (contextAt_waits n _ _ s) ((hon (.active n) _ hc).enters hfoot.2.1 rfl rfl)
  | arriveLast n run f hf hc hfoot hg =>
    exact (ho.set_active (contextAt_waits n _ _ s) ((hon (.active n) _ hc).enters hfoot.2.1 rfl rfl)).start
      (hl.wait ht hc hfoot.1 hg) (ht.set_active (contextAt_waits n _ _ s) hc rfl) hf _ run
  | release g run f hf => exact ho.start hl ht hf g run
  | park n k hc hk hcomp =>
    refine ho.of_each fun p d hd => ?_
    rw [contextAt_park] at hd
    split at hd
    · exact .inl (Option.some.inj hd ▸ (hon (.active n) _ hc).enters hcomp rfl rfl)
    · split at hd
      · simp at hd
      · exact .inr hd
  | unpark k hk hn hr hd =>
    rename_i c d
    refine ho.of_each fun p e he => ?_
    rw [contextAt_resumeIn, contextAt_setStored] at he
    split at he
    · exact .inl (Option.some.inj he ▸
        (hon (.stored k) c hk).enters (not_isComplete_of_parked (hs.2 k c hk)) hd.policy hd.accepted)
    · split at he
      · simp at he
      · exact .inr he
  | swap n k ha hb hh hcomp hr hd =>
    rename_i a b d
    refine ho.of_each fun p e he => ?_
    rw [contextAt_resumeIn, contextAt_park] at he
    split at he
    · exact .inl (Option.some.inj he ▸
        (hon (.stored k) b hb).enters (not_isComplete_of_parked (hs.2 k b hb)) hd.policy hd.accepted)
    · split at he
      · exact .inl (Option.some.inj he ▸ (hon (.active n) a ha).enters hcomp rfl rfl)
      · split at he
        · simp at he
        · exact .inr he
  | freeActive n hc =>
    refine ho.of_each fun p d hd => ?_
    rw [contextAt_freeActive] at hd
    split at hd
    · simp at hd
    · exact .inr hd
  | freeStored k hc =>
    refine ho.of_each fun p d hd => ?_
    rw [contextAt_freeStored] at hd
    split at hd
    · simp at hd
    · exact .inr hd

theorem moveContext_onTarget (d : Int) {c : Context} (h : OnTarget c) : OnTarget (moveContext d c) := by
  have hcomp : IsComplete (moveContext d c) ↔ IsComplete c := exists_congr (moveContext_state d c).2.2
  unfold OnTarget
  rw [(moveContext_kin d c).policy, moveContext_accepted, hcomp]
  exact h

theorem Move.keeps_targetLaw {s t : State} (h : Move s t) (hs : SlotLaw s.occ) (ht : TagsApart s.occ) (hl : ArrivalLaw s)
    (ho : TargetLaw s.occ) : TargetLaw t.occ := by
  obtain h | h | ⟨d, rfl⟩ | h := h.occupants
  · exact ho.of_each fun p d hd => .inr (h ▸ hd)
  · refine ho.of_each fun p d hd => ?_
    rw [h] at hd
    simp at hd
  · refine ho.of_each fun p c hc => ?_
    obtain ⟨c', hc', rfl | rfl⟩ := contextAt_applyStep d s p c hc
    · exact .inr hc'
    · exact .inl (moveContext_onTarget d (targetLaw_iff.mp ho p c' hc'))
  · exact h.keeps_targetLaw hs ht (arrivalLaw_iff.mp hl).1 ho

end Sys2Proof.Machine
end

section
/-! PROOFS. Every station record counts the live contexts that name it (R62), and the three laws of the occupations together (O59). -/

namespace Sys2Proof.Machine

-- One theorem at a time: side by side, the proofs ask for more threads than the check's memory limit has stacks for.
set_option Elab.async false

/-! ## How many contexts name a station -/

/-- Whether the occupant of a place names a station, as a count. -/
def hit (number : Nat) : Option Context → Nat
  | none => 0
  | some c => if c.station = number then 1 else 0

/-- Every place a context can stand in. -/
def places : List Place := heads.map .active ++ storeSlots.map .stored

/-- The number of occupants that name a station. -/
def naming (f : Place → Option Context) (number : Nat) : Nat := (places.map fun p => hit number (f p)).sum

theorem mem_places (p : Place) : p ∈ places := by
  cases p with
  | active n => simp [places, mem_heads]
  | stored k =>
    have hk : ∀ k : StoreSlotId, k ∈ storeSlots := by decide
    simp [places, hk]

theorem places_nodup : places.Nodup := by decide

theorem sum_map_update {α : Type} [DecidableEq α] {l : List α} (hl : l.Nodup) {p : α} (hp : p ∈ l) (f : α → Nat) (a : Nat) :
    (l.map fun q => if q = p then a else f q).sum + f p = (l.map f).sum + a := by
  induction l with
  | nil => simp at hp
  | cons x l ih =>
    obtain ⟨hx, hl⟩ := List.nodup_cons.mp hl
    simp only [List.map_cons, List.sum_cons]
    obtain rfl | hmem := List.mem_cons.mp hp
    · have hrest : (l.map fun q => if q = p then a else f q) = l.map f :=
        List.map_congr_left fun q hq => if_neg (ne_of_mem_of_not_mem hq hx)
      rw [if_pos rfl, hrest]
      omega
    · have := ih hl hmem
      rw [if_neg (ne_of_mem_of_not_mem hmem hx).symm]
      omega

/-- A new occupant of one place. -/
theorem naming_update {f f' : Place → Option Context} {p : Place} {a : Option Context}
    (h : ∀ q, f' q = if q = p then a else f q) (number : Nat) : naming f' number + hit number (f p) = naming f number + hit number a := by
  have hsum := sum_map_update places_nodup (mem_places p) (fun q => hit number (f q)) (hit number a)
  have hmap : (fun q => hit number (f' q)) = fun q => if q = p then hit number a else hit number (f q) := by
    funext q
    rw [h, apply_ite (hit number)]
  unfold naming
  rw [hmap]
  exact hsum

@[simp] theorem hit_none (number : Nat) : hit number none = 0 := rfl

theorem hit_congr {c d : Context} (h : d.station = c.station) (number : Nat) : hit number (some d) = hit number (some c) := by
  simp only [hit, h]

theorem hit_own (c : Context) : hit c.station (some c) = 1 := if_pos rfl

theorem hit_other {c : Context} {number : Nat} (h : number ≠ c.station) : hit number (some c) = 0 := if_neg (Ne.symm h)

theorem naming_pos {f : Place → Option Context} {number : Nat} : 0 < naming f number ↔ ∃ p c, f p = some c ∧ c.station = number := by
  constructor
  · intro h
    obtain ⟨x, hx, hpos⟩ := List.exists_mem_ne_zero_of_sum_ne_zero (Nat.pos_iff_ne_zero.mp h)
    obtain ⟨p, -, rfl⟩ := List.mem_map.mp hx
    cases hf : f p with
    | none => simp [hf, hit] at hpos
    | some c => exact ⟨p, c, hf, by simpa [hf, hit] using hpos⟩
  · rintro ⟨p, c, hc, rfl⟩
    have hle := List.le_sum_of_mem (List.mem_map.mpr ⟨p, mem_places p, rfl⟩ : hit c.station (f p) ∈ places.map fun p => hit c.station (f p))
    rw [hc, hit_own] at hle
    exact hle

theorem length_named {α β : Type} (l : List α) (v : α → Option Context) (k : α → β) (number : Nat) :
    (((l.filterMap fun a => (v a).map fun c => (a, c)).map fun x => (k x.1, x.2)).filter fun x => x.2.station == number).length =
      (l.map fun a => hit number (v a)).sum := by
  induction l with
  | nil => rfl
  | cons a l ih =>
    cases h : v a with
    | none => simpa [h, hit] using ih
    | some c =>
      by_cases hc : c.station = number
      · simp only [List.filterMap_cons, h, Option.map_some, List.map_cons, List.filter_cons, hc, beq_self_eq_true, if_true,
          List.length_cons, ih, List.sum_cons, hit]
        omega
      · simp only [List.filterMap_cons, h, Option.map_some, List.map_cons, List.filter_cons, beq_iff_eq, hc, if_false,
          ih, List.sum_cons, hit]
        omega

theorem naming_eq (o : Occupations) (number : Nat) :
    ((liveContexts o).filter fun x => x.2.station == number).length = naming (contextAt o) number := by
  simp only [liveContexts, List.filter_append, List.length_append, activeContexts, parkedContexts]
  rw [length_named heads (fun n => o.active[n]) Place.active, length_named storeSlots (fun k => o.store[k]) Place.stored]
  simp only [naming, places, List.map_append, List.map_map, List.sum_append, Function.comp_def, contextAt]

/-! ## The law by places and buckets -/

/-- The law of RefsLaw for a table and the occupants of the places. -/
structure RefsIn (t : StationTable) (f : Place → Option Context) : Prop where
  counts : ∀ (k : Fin 64), ∀ r ∈ bucketRecords t.buckets[k], r.refs = naming f r.number
  found : ∀ n, 0 < naming f n → (findStation t n).isSome

theorem mem_allRecords {t : StationTable} {r : StationRecord} : r ∈ allRecords t ↔ ∃ k : Fin 64, r ∈ bucketRecords t.buckets[k] := by
  simp only [allRecords, List.mem_flatMap]
  constructor
  · rintro ⟨b, hb, hr⟩
    obtain ⟨i, hi, rfl⟩ := List.mem_iff_getElem.mp hb
    exact ⟨⟨i, by simpa using hi⟩, hr⟩
  · rintro ⟨k, hr⟩
    exact ⟨t.buckets[k], by simp, hr⟩

theorem refsLaw_iff {s : State} : RefsLaw s ↔ RefsIn s.table (contextAt s.occ) := by
  unfold RefsLaw
  simp only [naming_eq]
  constructor
  · rintro ⟨hcounts, hfound⟩
    refine ⟨fun k r hr => hcounts r (mem_allRecords.mpr ⟨k, hr⟩), fun n hn => ?_⟩
    obtain ⟨p, c, hc, rfl⟩ := naming_pos.mp hn
    exact hfound (p, c) (mem_liveContexts.mpr hc)
  · rintro ⟨hcounts, hfound⟩
    refine ⟨fun r hr => ?_, fun x hx => hfound _ (naming_pos.mpr ⟨x.1, x.2, mem_liveContexts.mp hx, rfl⟩)⟩
    obtain ⟨k, hk⟩ := mem_allRecords.mp hr
    exact hcounts k r hk

theorem findStation_isSome {t : StationTable} {n : Nat} :
    (findStation t n).isSome ↔ ∃ r ∈ bucketRecords t.buckets[bucketIndex n], r.number = n := by
  rw [← Option.ne_none_iff_isSome, ne_eq, findStation_eq_none_iff]
  push Not
  rfl

theorem RefsIn.congr {t : StationTable} {f f' : Place → Option Context} (h : RefsIn t f) (hn : ∀ n, naming f' n = naming f n) :
    RefsIn t f' :=
  ⟨fun k r hr => (h.counts k r hr).trans (hn _).symm, fun n hpos => h.found n (hn n ▸ hpos)⟩

theorem TableLaw.bucketIndex_eq {t : StationTable} (ht : TableLaw t) {k : Fin 64} {r : StationRecord}
    (hr : r ∈ bucketRecords t.buckets[k]) : bucketIndex r.number = k := Fin.ext ((ht.1 k).1 r hr)

/-! ## The table changes -/

/-- In a table in order a change in place touches the record of the number alone. -/
theorem TableLaw.updateStation_records {t : StationTable} (ht : TableLaw t) (n : Nat) (g : StationRecord → StationRecord)
    (k : Fin 64) : bucketRecords (updateStation n g t).buckets[k] = (bucketRecords t.buckets[k]).map (updated n g) := by
  rw [updateStation_bucket]
  split
  · exact bucketRecords_updateBucket ..
  · rename_i hk
    have hsame : ∀ r ∈ bucketRecords t.buckets[k], updated n g r = r := fun r hr =>
      if_neg fun hnum : r.number = n => hk (hnum ▸ ht.bucketIndex_eq hr)
    exact (List.map_congr_left hsame).trans (List.map_id _) |>.symm

/-- The record of one number is changed in place as the contexts that name it change. -/
theorem RefsIn.update {t : StationTable} {f f' : Place → Option Context} (h : RefsIn t f) (ht : TableLaw t) {n : Nat}
    {g : StationRecord → StationRecord} (hg : ∀ r, (g r).number = r.number)
    (hrefs : ∀ r, r.refs = naming f n → (g r).refs = naming f' n) (hother : ∀ m, m ≠ n → naming f' m = naming f m)
    (hfound : 0 < naming f' n → (findStation t n).isSome) : RefsIn (updateStation n g t) f' := by
  refine ⟨fun k r hr => ?_, fun m hm => ?_⟩
  · rw [ht.updateStation_records, List.mem_map] at hr
    obtain ⟨x, hx, rfl⟩ := hr
    rw [updated_number hg]
    unfold updated
    split
    · rename_i hnum
      subst hnum
      exact hrefs x (h.counts k x hx)
    · rename_i hnum
      rw [hother _ hnum]
      exact h.counts k x hx
  · have hold : (findStation t m).isSome := by
      by_cases hmn : m = n
      · subst hmn
        exact hfound hm
      · exact h.found m (hother m hmn ▸ hm)
    obtain ⟨x, hx, hnum⟩ := findStation_isSome.mp hold
    refine findStation_isSome.mpr ⟨updated n g x, ?_, (updated_number hg x).trans hnum⟩
    rw [ht.updateStation_records]
    exact List.mem_map_of_mem hx

/-- A record is placed for a number that had none. -/
theorem RefsIn.place {t : StationTable} {f f' : Place → Option Context} (h : RefsIn t f) (ht : TableLaw t) {r : StationRecord}
    (hf : findStation t r.number = none) (hrefs : r.refs = naming f' r.number)
    (hother : ∀ m, m ≠ r.number → naming f' m = naming f m) : RefsIn (placeRecord r t) f' := by
  have hnew (k : Fin 64) (x : StationRecord) (hx : x ∈ bucketRecords t.buckets[k]) : x.number ≠ r.number := fun hnum => by
    obtain rfl := ht.bucketIndex_eq hx
    rw [hnum] at hx
    exact findStation_eq_none_iff.mp hf x hx hnum
  refine ⟨fun k x hx => ?_, fun m hm => findStation_isSome.mpr ?_⟩
  · rw [placeRecord_bucket ht] at hx
    have hmem : x ∈ bucketRecords t.buckets[k] ∨ x = r := by
      split at hx
      · simpa using hx
      · exact .inl hx
    obtain hold | rfl := hmem
    · rw [hother _ (hnew k x hold)]
      exact h.counts k x hold
    · exact hrefs
  · rw [placeRecord_bucket ht]
    by_cases hmn : m = r.number
    · subst hmn
      exact ⟨r, by simp, rfl⟩
    · obtain ⟨x, hx, hnum⟩ := findStation_isSome.mp (h.found m (hother m hmn ▸ hm))
      refine ⟨x, ?_, hnum⟩
      split
      · exact List.mem_append_left _ hx
      · exact hx

/-- A record that no context names is removed. -/
theorem RefsIn.remove {t : StationTable} {f : Place → Option Context} (h : RefsIn t f) {n : Nat} (hn : naming f n = 0) :
    RefsIn (removeStation n t) f := by
  have hrecords (k : Fin 64) (x : StationRecord) : x ∈ bucketRecords (removeStation n t).buckets[k] ↔
      x ∈ bucketRecords t.buckets[k] ∧ (bucketIndex n = k → x.number ≠ n) := by
    rw [removeStation_bucket]
    split
    · rename_i hk
      simp [keepInBucket, bucketRecords_bucketOf, hk]
    · rename_i hk
      simp [hk]
  refine ⟨fun k x hx => h.counts k x ((hrecords k x).mp hx).1, fun m hm => ?_⟩
  obtain ⟨x, hx, hnum⟩ := findStation_isSome.mp (h.found m hm)
  refine findStation_isSome.mpr ⟨x, (hrecords _ x).mpr ⟨hx, fun _ hxn => ?_⟩, hnum⟩
  rw [← hxn, hnum] at hn
  omega

theorem RefsIn.age {t : StationTable} {f : Place → Option Context} (h : RefsIn t f) : RefsIn (ageTable t) f := by
  have hrecords (k : Fin 64) : bucketRecords (ageTable t).buckets[k] =
      ((bucketRecords t.buckets[k]).filter survivesAge).map shiftMarks := by
    rw [ageTable_bucket, ageBucket, bucketRecords_bucketOf]
  refine ⟨fun k x hx => ?_, fun m hm => ?_⟩
  · rw [hrecords, List.mem_map] at hx
    obtain ⟨y, hy, rfl⟩ := hx
    exact h.counts k y (List.mem_filter.mp hy).1
  · obtain ⟨x, hx, rfl⟩ := findStation_isSome.mp (h.found m hm)
    have hkept : survivesAge x = true := by
      have hrefs : x.refs ≠ 0 := by
        rw [h.counts _ x hx]
        omega
      simp [survivesAge, hrefs]
    refine findStation_isSome.mpr ⟨shiftMarks x, ?_, rfl⟩
    rw [hrecords]
    exact List.mem_map_of_mem (List.mem_filter.mpr ⟨hx, hkept⟩)

theorem TableMove.keeps_refsIn {t u : StationTable} (h : TableMove t u) (ht : TableLaw t) {f : Place → Option Context}
    (hr : RefsIn t f) : RefsIn u f := by
  cases h with
  | put p hroom =>
    unfold putStation
    split
    · rename_i r hf
      exact hr.update ht (fun _ => rfl) (fun r hrefs => hrefs) (fun _ _ => rfl) fun _ => hf ▸ rfl
    · rename_i hf
      refine hr.place ht hf (Nat.eq_zero_of_not_pos fun hpos => ?_).symm fun _ _ => rfl
      have hsome := hr.found _ hpos
      rw [show findStation t (storedRecord p).number = none from hf] at hsome
      simp at hsome
  | delete hf hrefs =>
    obtain ⟨hmem, rfl⟩ := findStation_some hf
    exact hr.remove ((hr.counts _ _ hmem).symm.trans hrefs)
  | age => exact hr.age

/-! ## The contexts change -/

/-- A context appears that names a station. -/
theorem RefsIn.enrol {o : Occupations} {t u : StationTable} {f' : Place → Option Context} {c : Context}
    (h : RefsIn t (contextAt o)) (ht : TableLaw t) (he : Enrols o c.station t u)
    (hn : ∀ m, naming f' m = naming (contextAt o) m + hit m (some c)) : RefsIn u f' := by
  have hother (m : Nat) (hm : m ≠ c.station) : naming f' m = naming (contextAt o) m := by rw [hn, hit_other hm, Nat.add_zero]
  obtain ⟨hknown, rfl⟩ | ⟨r, hf, -, hnum, hrefs, rfl⟩ := he
  · refine h.update ht (fun _ => rfl) (fun r hr => ?_) hother fun _ => ?_
    · rw [hn, hit_own, ← hr]
      exact rfl
    · obtain hsome | ⟨x, hx, hxs⟩ := hknown
      · exact hsome
      · exact h.found _ (naming_pos.mpr ⟨x.1, x.2, mem_liveContexts.mp hx, hxs⟩)
  · rw [← hnum] at hf hother
    refine h.place ht hf ?_ hother
    have hzero : naming (contextAt o) r.number = 0 := Nat.eq_zero_of_not_pos fun hpos => by
      have hsome := h.found _ hpos
      rw [hf] at hsome
      simp at hsome
    rw [hn, hzero, hnum, hit_own, hrefs]

/-- A context that named a station is gone. -/
theorem RefsIn.release {t : StationTable} {f f' : Place → Option Context} {c : Context} (h : RefsIn t f) (ht : TableLaw t)
    (hn : ∀ m, naming f' m + hit m (some c) = naming f m) : RefsIn (updateStation c.station dropReference t) f' := by
  have hown := hn c.station
  rw [hit_own] at hown
  refine h.update ht (fun _ => rfl) (fun r hr => ?_) (fun m hm => ?_) fun hpos => h.found _ (by omega)
  · change r.refs - 1 = _
    omega
  · have := hn m
    rw [hit_other hm] at this
    omega

/-- A station's mark is set. -/
theorem RefsIn.mark {t : StationTable} {f : Place → Option Context} (h : RefsIn t f) (ht : TableLaw t) (n : Nat) :
    RefsIn (updateStation n (markUsed 0) t) f :=
  h.update ht (fun _ => rfl) (fun _ hr => hr) (fun _ _ => rfl) (h.found n)

/-- The occupant of one place gives way to one that names the same station. -/
theorem naming_replace {f f' : Place → Option Context} {p : Place} {c d : Context} (h : ∀ q, f' q = if q = p then some d else f q)
    (hc : f p = some c) (hd : d.station = c.station) (n : Nat) : naming f' n = naming f n := by
  have hsum := naming_update h n
  rw [hc, hit_congr hd] at hsum
  omega

theorem naming_started {f : Context → Context} (hf : ∀ c, Kin c (f c) ∧ (f c).acc.accepted = c.acc.accepted) (g : Group) (run : Nat)
    (s : State) (n : Nat) : naming (contextAt (started g run f s).occ) n = naming (contextAt s.occ) n := by
  unfold naming
  congr 1
  refine List.map_congr_left fun p _ => ?_
  obtain hsame | ⟨m, c, d, -, hc, hd, -, hs⟩ := (started_among hf g run s).contextAt p
  · rw [hsame]
  · rw [hc, hd, hit_congr hs.station]

/-- A context goes from one place to another that is empty, its station kept. -/
theorem naming_shift {f f' : Place → Option Context} {p q : Place} {c d : Context} (hpq : q ≠ p)
    (h : ∀ x, f' x = if x = q then some d else if x = p then none else f x) (hc : f p = some c) (hq : f q = none)
    (hd : d.station = c.station) (n : Nat) : naming f' n = naming f n := by
  have hout := naming_update (f := f) (f' := fun x => if x = p then none else f x) (fun _ => rfl) n
  have hin := naming_update (f := fun x => if x = p then none else f x) h n
  simp only [if_neg hpq, hq, hit_none] at hin
  rw [hc, hit_none] at hout
  rw [hit_congr hd] at hin
  omega

theorem naming_park {s : State} {n : Head} {k : StoreSlotId} {c : Context} (hc : s.occ.active[n] = some c)
    (hk : s.occ.store[k] = none) (m : Nat) : naming (contextAt (park n k c s).occ) m = naming (contextAt s.occ) m :=
  naming_shift (f := contextAt s.occ) (p := .active n) (q := .stored k) (by simp) (contextAt_park n k c s) hc hk rfl m

/-- Two contexts change places in a swap. -/
theorem naming_swap {s : State} {n : Head} {k : StoreSlotId} {a b d : Context} (ha : s.occ.active[n] = some a)
    (hb : s.occ.store[k] = some b) (hn : b.head = n) (hd : d.station = b.station) (m : Nat) :
    naming (contextAt (resumeIn b d (park n k a s)).occ) m = naming (contextAt s.occ) m := by
  have hin := naming_update (contextAt_resumeIn b d (park n k a s)) m
  have hstored := naming_update (f := fun p => if p = .active n then none else contextAt s.occ p) (contextAt_park n k a s) m
  have hout := naming_update (f := contextAt s.occ) (f' := fun p => if p = .active n then none else contextAt s.occ p)
    (fun _ => rfl) m
  rw [contextAt_park, hn, if_neg (by simp), if_pos rfl, hit_congr hd, hit_none] at hin
  simp only [reduceCtorEq, if_false, show contextAt s.occ (.stored k) = some b from hb] at hstored
  rw [show contextAt s.occ (.active n) = some a from ha, hit_none] at hout
  rw [show hit m (some (parkedContext (now s) a)) = hit m (some a) from rfl] at hstored
  omega

theorem OccMove.keeps_refsLaw {s t : State} (h : OccMove s t) (hs : SlotLaw s.occ) (ht : TableLaw s.table)
    (hr : RefsIn s.table (contextAt s.occ)) : RefsIn t.table (contextAt t.occ) := by
  cases h with
  | openContext n c tb _ hn _ _ _ _ _ he =>
    refine hr.enrol ht he fun m => ?_
    have hsum := naming_update (contextAt_setActive n (some c) (setTable tb s)) m
    rw [show contextAt (setTable tb s).occ (.active n) = none from hn, hit_none, Nat.add_zero] at hsum
    exact hsum
  | touch n hc hf hw => exact hr.congr (naming_replace (contextAt_setActive n _ s) hc hf.station)
  | leave n hc hf hw =>
    rw [leaveList_table]
    exact hr.congr (naming_replace (contextAt_leave n _ s) hc hf.station)
  | wait n hc hfoot hg hl => exact hr.congr (naming_replace (contextAt_waits n _ _ s) hc rfl)
  | arriveLast n run f hf hc hfoot hg =>
    rw [started_table]
    refine hr.congr fun m => ?_
    rw [naming_started hf]
    exact naming_replace (contextAt_waits n _ _ s) hc rfl m
  | release g run f hf =>
    rw [started_table]
    exact hr.congr (naming_started hf g run s)
  | park n k hc hk hcomp =>
    rw [park_table]
    exact hr.congr (naming_park hc hk)
  | unpark k hk hn hpart hd =>
    rename_i c d
    rw [resumeIn_table]
    refine (hr.congr fun m => ?_).mark ht _
    refine naming_shift (f := contextAt s.occ) (p := .stored k) (q := .active c.head) (by simp) (fun p => ?_) hk hn hd.station m
    rw [contextAt_resumeIn, contextAt_setStored]
  | swap n k ha hb hh hcomp hpart hd =>
    rename_i a b d
    rw [resumeIn_table, park_table]
    exact (hr.congr (naming_swap ha hb (hh.symm.trans (hs.1 n a ha).1) hd.station)).mark ht _
  | freeActive n hc =>
    rename_i c
    rw [freeActive_table]
    refine hr.release ht fun m => ?_
    have hsum := naming_update (contextAt_freeActive n c s) m
    rw [show contextAt s.occ (.active n) = some c from hc, hit_none, Nat.add_zero] at hsum
    exact hsum
  | freeStored k hc =>
    rename_i c
    rw [freeStored_table]
    refine hr.release ht fun m => ?_
    have hsum := naming_update (contextAt_freeStored k c s) m
    rw [show contextAt s.occ (.stored k) = some c from hc, hit_none, Nat.add_zero] at hsum
    exact hsum

/-! ## The law after any move -/

theorem naming_congr {f f' : Place → Option Context} (h : ∀ p, (f' p).map (·.station) = (f p).map (·.station)) (n : Nat) :
    naming f' n = naming f n := by
  have hhit (a : Option Context) : hit n a = if a.map (·.station) = some n then 1 else 0 := by cases a <;> simp [hit]
  simp only [naming, hhit, h]

theorem naming_empty {f : Place → Option Context} (h : ∀ p, f p = none) (n : Nat) : naming f n = 0 :=
  Nat.eq_zero_of_not_pos fun hpos => by
    obtain ⟨p, c, hc, -⟩ := naming_pos.mp hpos
    rw [h] at hc
    simp at hc

theorem naming_applyStep (d : Int) (s : State) (n : Nat) :
    naming (contextAt (applyStep d s).occ) n = naming (contextAt s.occ) n := by
  refine naming_congr (fun p => ?_) n
  cases p with
  | active m =>
    change ((applyStep d s).occ.active[m]).map _ = _
    rw [applyStep_active, Option.map_map]
    exact congrArg (fun g => Option.map g s.occ.active[m]) (funext fun c => (moveContext_kin d c).station)
  | stored k => rfl

theorem Move.keeps_refsLaw {s t : State} (h : Move s t) (hs : SlotLaw s.occ) (ht : TableLaw s.table)
    (hr : RefsIn s.table (contextAt s.occ)) : RefsIn t.table (contextAt t.occ) := by
  cases h with
  | alike h =>
    rw [h.table]
    refine hr.congr fun n => naming_congr (fun p => ?_) n
    cases p with
    | active m => simp only [contextAt, h.active]
    | stored k => simp only [contextAt, h.store]
  | start pending sys clock tide pins choices =>
    have hnone (p : Place) : contextAt (State.starting pending sys clock tide pins choices).occ p = none := by
      cases p <;> simp [State.starting, contextAt]
    rw [starting_table]
    refine ⟨fun k r hk => ?_, fun n hn => ?_⟩
    · simp [bucketRecords] at hk
    · rw [naming_empty hnone] at hn
      omega
  | table h => exact h.keeps_refsIn ht hr
  | occ h => exact h.keeps_refsLaw hs ht hr
  | clockStep d => exact hr.congr (naming_applyStep d s)
  | setupHead n p =>
    unfold storeHead
    dsimp only
    split <;> exact hr
  | _ => exact hr

/-- Settles O59: each law is kept by every move together with the laws it rests on. -/
theorem stepKeepsOccupationLaws : Obligations.StepKeepsOccupationLaws := by
  refine ⟨fun s t hs ht hl h => ?_, fun s t hs ht hl ho h => ?_, fun s t hs _ htab hr h => ?_⟩
  · rw [liveTagsDistinct_iff] at ht
    have hall := step_keeps (P := fun s => SlotLaw s.occ ∧ TagsApart s.occ ∧ ArrivalLaw s)
      (fun s t hm ⟨hs, ht, hl⟩ => ⟨hm.keeps_slotLaw hs, hm.keeps_tagsApart ht, hm.keeps_arrivalLaw hs ht hl⟩) ⟨hs, ht, hl⟩ h
    exact hall.2.2
  · rw [liveTagsDistinct_iff] at ht
    have hall := step_keeps (P := fun s => SlotLaw s.occ ∧ TagsApart s.occ ∧ ArrivalLaw s ∧ TargetLaw s.occ)
      (fun s t hm ⟨hs, ht, hl, ho⟩ => ⟨hm.keeps_slotLaw hs, hm.keeps_tagsApart ht, hm.keeps_arrivalLaw hs ht hl,
        hm.keeps_targetLaw hs ht hl ho⟩) ⟨hs, ht, hl, ho⟩ h
    exact hall.2.2.2
  · rw [refsLaw_iff] at hr ⊢
    have hall := step_keeps (P := fun s => SlotLaw s.occ ∧ TableLaw s.table ∧ RefsIn s.table (contextAt s.occ))
      (fun s t hm ⟨hs, htab, hr⟩ => ⟨hm.keeps_slotLaw hs, hm.keeps_tableLaw htab, hm.keeps_refsLaw hs htab hr⟩) ⟨hs, htab, hr⟩ h
    exact hall.2.2

end Sys2Proof.Machine
end

section
/-! PROOFS. The step function, the state after reset, and the laws there (O1 to O5). -/

namespace Sys2Proof.Machine

-- One theorem at a time: side by side, the proofs ask for more threads than the check's memory limit has stacks for.
set_option Elab.async false

/-! ## The step function -/

theorem step_cons {c : Instr} {rest : List Instr} {s : State} (h : s.pending = c :: rest) :
    step s = exec c { s with pending := rest } := by
  simp only [step, h]

theorem step_nil {s : State} (h : s.pending = []) : step s = idle s := by simp only [step, h]

/-- Settles O1: a step matches on the queue. -/
theorem stepRunsTheFrontCommand : Obligations.StepRunsTheFrontCommand :=
  ⟨fun c s => step_cons (s := { s with pending := c :: s.pending }) rfl, fun _ _ _ h => step_cons h⟩

/-- Settles O2: with nothing due, no frame and no dump the last case of what an idle part does is left. -/
theorem idlePartTakesDueStepsElseAMillisecond : Obligations.IdlePartTakesDueStepsElseAMillisecond := by
  refine ⟨fun s i hp hd => ?_, fun s hp hd hi hdump => ?_⟩
  · rw [step_nil hp]
    simp only [idle, hd]
  · have hready : dumpReady s = false := by simp [dumpReady, hdump]
    rw [step_nil hp]
    simp [idle, hd, hi, hready, tick, Config.maxTime]

theorem exec_next (i : Instr) (s : State) : ∃ t, exec i s = .next t := by
  cases i with
  | saveComplete w =>
    simp only [exec, execSaveComplete]
    split <;> exact ⟨_, rfl⟩
  | correctionComplete =>
    simp only [exec, execCorrectionComplete]
    split <;> exact ⟨_, rfl⟩
  | _ => exact ⟨_, rfl⟩

theorem idle_next (s : State) : ∃ t, idle s = .next t := by
  unfold idle
  split
  · exact exec_next ..
  · split
    · exact ⟨_, rfl⟩
    · split
      · exact exec_next ..
      · exact ⟨_, rfl⟩

/-- Settles O3: every row answers a next state, and so does an idle part. -/
theorem everyStepAnswersNext : Obligations.EveryStepAnswersNext := by
  refine ⟨fun s => ?_, exec_next⟩
  cases h : s.pending with
  | nil =>
    rw [step_nil h]
    exact idle_next s
  | cons c rest =>
    rw [step_cons h]
    exact exec_next ..

/-! ## Reset -/

/-- A start puts every block at its start values. -/
theorem starting_atStart (pending sys clock tide pins choices) : AtStart (State.starting pending sys clock tide pins choices) := by
  refine ⟨rfl, ?_, fun n => ?_, rfl, ?_, rfl, ?_, rfl, ?_, rfl, rfl, rfl, rfl⟩
  · simp [State.starting]
  · simp [State.starting, State.offPort]
  · simp [State.starting]
  · simp [State.starting]
  · simp [State.starting]

theorem factory_senders : ∀ k : Fin 3, Config.factory.senders[k] = 0#7 := by decide

theorem factory_heads : ∀ n : Head,
    Config.factory.heads[n] = { enable := true, latency := 0, silence := 5, notify := 0x1F#5, halt := 0#5 } ∧
      Config.factory.cal[n].version = 1 := by decide

/-- Settles O4: the reset state is a start with the factory settings. -/
theorem resetHasBegunAColdStart : Obligations.ResetHasBegunAColdStart :=
  ⟨rfl, rfl, rfl, rfl, rfl, rfl, rfl, rfl, starting_atStart .., rfl, rfl, rfl, rfl, rfl, rfl, rfl, factory_senders, factory_heads⟩

theorem starting_vacant (pending sys clock tide pins choices) (p : Place) :
    contextAt (State.starting pending sys clock tide pins choices).occ p = none := by
  cases p <;> simp [State.starting, contextAt]

theorem liveContexts_eq_nil {o : Occupations} (h : ∀ p, contextAt o p = none) : liveContexts o = [] := by
  rw [List.eq_nil_iff_forall_not_mem]
  intro x hx
  rw [mem_liveContexts, h] at hx
  simp at hx

theorem allRecords_starting (pending sys clock tide pins choices) :
    allRecords (State.starting pending sys clock tide pins choices).table = [] := by
  rw [List.eq_nil_iff_forall_not_mem, starting_table]
  intro r hr
  obtain ⟨k, hk⟩ := mem_allRecords.mp hr
  simp [bucketRecords] at hk

/-- Settles O5: at a start every list is empty and every count 0. -/
theorem lawsHoldAtReset : Obligations.LawsHoldAtReset := by
  have hlive : liveContexts State.reset.occ = [] := liveContexts_eq_nil fun p => starting_vacant ..
  have hrecords : allRecords State.reset.table = [] := allRecords_starting ..
  refine ⟨?queue, ?pages, starting_tableLaw .., ?slots, ?capacity, ?ring, ?numbers, ?tags, starting_arrivalLaw .., ?target, ?refs⟩
  case queue => exact ⟨by decide, by decide⟩
  case pages =>
    intro j k hjk p q hj
    simp [State.reset, State.starting] at hj
  case slots =>
    refine ⟨fun n c hc => ?_, fun k c hc => ?_⟩
    · simp [State.reset, State.starting] at hc
    · simp [State.reset, State.starting] at hc
  case capacity =>
    refine ⟨fun n => ?_, by decide, by decide, by decide, by decide, fun _ => ⟨rfl, fun n => ?_⟩⟩
    · simp [State.reset, State.starting, State.offPort]
    · simp [State.reset, State.starting, State.offPort]
  case ring =>
    intro n
    simp [State.reset, State.starting]
  case numbers =>
    intro j k p q hj
    simp [State.reset, State.starting, slotPage] at hj
  case tags =>
    unfold LiveTagsDistinct
    rw [hlive]
    exact List.nodup_nil
  case target =>
    unfold TargetLaw
    rw [hlive]
    simp
  case refs =>
    unfold RefsLaw
    rw [hlive, hrecords]
    simp

end Sys2Proof.Machine
end

section
/-! PROOFS. Steps of the part's own that are not due (O11). -/

namespace Sys2Proof.Machine

-- One theorem at a time: side by side, the proofs ask for more threads than the check's memory limit has stacks for.
set_option Elab.async false

theorem due_eq_false {t : Nat} {e : Option Int} : due t e = false ↔ ∀ x, e = some x → (t : Int) < x := by
  cases e <;> simp [due]

theorem due_some {t : Nat} {x : Int} : due t (some x) = decide (x ≤ (t : Int)) := rfl

theorem silenceDue_eq_false {t : Nat} {p : HeadPort} : silenceDue t p = false ↔ ∀ e, p.state = .live e → (t : Int) < e := by
  unfold silenceDue
  split <;> simp_all

theorem settleTimer_eq_some {s : State} {n : Head} {e : Int} :
    settleTimer s n = some e ↔ ∃ c, s.occ.active[n] = some c ∧ c.state = .settling e := by
  have hexp (c : Context) : settleExpiryOf c = some e ↔ c.state = .settling e := by
    unfold settleExpiryOf
    split <;> simp_all
  simp only [settleTimer, Option.bind_eq_some_iff, hexp]

theorem limitTimer_eq_some {s : State} {n : Head} {e : Int} :
    limitTimer s n = some e ↔ ∃ c b, s.occ.active[n] = some c ∧ c.state = .running b (some e) := by
  have hexp (c : Context) : limitExpiryOf c = some e ↔ ∃ b, c.state = .running b (some e) := by
    unfold limitExpiryOf
    split <;> simp_all
  simp only [limitTimer, Option.bind_eq_some_iff, hexp]
  exact ⟨fun ⟨c, hc, b, hb⟩ => ⟨c, b, hc, hb⟩, fun ⟨c, b, hc, hb⟩ => ⟨c, hc, b, hb⟩⟩

theorem lossTimer_eq_some {s : State} {e : Int} : lossTimer s = some e ↔ s.clock.state = .locked e := by
  unfold lossTimer
  split <;> simp_all

theorem readyPage_eq_some {x : PageSlot} {p : Page} : readyPage x = some p ↔ x = .ready p := by
  cases x <;> simp [readyPage]

theorem clockRuns_eq_false {s : State} : clockRuns s = false ↔ s.clock.state = .unset := by
  unfold clockRuns
  split <;> simp_all

theorem endedPage_eq_some {k : PageSlotId} {s : State} {p : Page} :
    endedPage k s = some p ↔ s.pages.slots[k] = .ready p ∧ pageEnd p ≤ now s := by
  simp [endedPage, Option.filter_eq_some_iff, readyPage_eq_some]

theorem exec_eventDispatch_quiet {s : State} (h : Quiet s) : exec .eventDispatch s = .next s := by
  have hnone : dispatchLatched s = s := by simp only [dispatchLatched, h.1]
  simp only [exec, execEventDispatch, latchNext_quiet h, hnone]

theorem exec_pageRetirement_early {s : State} {k : PageSlotId} (h : ∀ p, s.pages.slots[k] = .ready p →
    s.clock.state = .unset ∨ s.clock.time < p.start + 1000 * p.length) : exec (.pageRetirement k) s = .next s := by
  have hnot : (clockRuns s && (endedPage k s).isSome) = false := by
    rw [← Bool.not_eq_true, Bool.and_eq_true]
    rintro ⟨hrun, hended⟩
    obtain ⟨p, hp⟩ := Option.isSome_iff_exists.mp hended
    obtain ⟨hready, hend⟩ := endedPage_eq_some.mp hp
    obtain hunset | hearly := h p hready
    · rw [clockRuns_eq_false.mpr hunset] at hrun
      exact Bool.noConfusion hrun
    · unfold pageEnd now at hend
      omega
  simp [exec, execPageRetirement, hnot]

/-- Settles O11: each step tests whether it is due before it does anything, and the event unit is quiet. -/
theorem stepsNotDueChangeNothing : Obligations.StepsNotDueChangeNothing := by
  intro s hq
  refine ⟨fun n h => ?silence, fun h => ?correction, fun n h => ?flush, fun n h => ?settle, fun n h => ?limit, fun g h => ?gathering,
    fun h => ?reading, fun h => ?loss, fun k h => exec_pageRetirement_early h, fun h => ?span, exec_eventDispatch_quiet hq,
    fun h => ?transmission, fun h => ?dump, fun h => ?load, fun h w => ?save⟩
  case silence =>
    have hdue : silenceDue (now s) s.ports[n] = false := silenceDue_eq_false.mpr h
    simp only [exec, execSilenceExpiry, silenceExpires, hdue, Bool.false_eq_true, if_false, latchNext_quiet hq]
  case correction => simp only [exec, execCorrectionComplete, h]
  case flush =>
    have hdue : due (now s) s.batches[n].expiry = false := due_eq_false.mpr h
    simp only [exec, execFlushExpiry, hdue, Bool.false_eq_true, if_false]
  case settle =>
    have hdue : due (now s) (settleTimer s n) = false := due_eq_false.mpr fun x hx => by
      obtain ⟨c, hc, hst⟩ := settleTimer_eq_some.mp hx
      exact h c x hc hst
    simp only [exec, execSettleExpiry, hdue, Bool.false_eq_true, if_false]
  case limit =>
    have hdue : due (now s) (limitTimer s n) = false := due_eq_false.mpr fun x hx => by
      obtain ⟨c, b, hc, hst⟩ := limitTimer_eq_some.mp hx
      exact h c b x hc hst
    simp only [exec, execLimitExpiry, hdue, Bool.false_eq_true, if_false]
  case gathering =>
    have hdue : due (now s) s.groups[g].timer = false := due_eq_false.mpr h
    simp only [exec, execGatheringExpiry, hdue, Bool.false_eq_true, if_false]
  case reading => simp only [exec, execReadingJoin, joinReading, h, latchNext_quiet hq]
  case loss =>
    have hdue : due (now s) (lossTimer s) = false := due_eq_false.mpr fun x hx => h x (lossTimer_eq_some.mp hx)
    simp only [exec, execLossExpiry, hdue, Bool.false_eq_true, if_false]
  case span =>
    have hnot : spanStarted s = false := by simp [spanStarted, h]
    simp only [exec, execSpanStart, hnot, Bool.false_eq_true, if_false]
  case transmission => simp only [exec, execTransmissionComplete, h, Bool.false_eq_true, if_false]
  case dump =>
    have hnot : dumpReady s = false := by simp only [dumpReady, h]
    simp only [exec, execDumpBlock, hnot, Bool.false_eq_true, if_false]
  case load => simp [exec, execLoadComplete, h]
  case save => simp only [exec, execSaveComplete, h]

end Sys2Proof.Machine
end

section
/-! PROOFS. How a frame that finds the controller attentive is taken, for every command action. -/

namespace Sys2Proof.Machine

-- One theorem at a time: side by side, the proofs ask for more threads than the check's memory limit has stacks for.
set_option Elab.async false

/-! ## A taken frame -/

/-- A frame that finds the controller attentive is handled as it arrives, and what the event unit then has follows. -/
theorem exec_drains {c : Instr} {s : State} (hc : c.isFrame = true) (hs : Attentive s) (hi : (handleFrame c s).link.intake = []) :
    exec c s = .next (drain (handleFrame c s)) := by
  rw [exec_frame hc, receive_drains c hs hi]

/-- A frame that finds the controller attentive and leaves the event unit quiet is handled as it arrives, and that is all. -/
theorem exec_handles {c : Instr} {s : State} (hc : c.isFrame = true) (hs : Attentive s) (hi : (handleFrame c s).link.intake = [])
    (hq : Quiet (handleFrame c s)) : exec c s = .next (handleFrame c s) := by
  rw [exec_drains hc hs hi, drain_quiet hq]

/-! ## A taken command -/

section
variable {α : Type} {k : Kind} {h : Header} {c : Instr} {ground : α → State → Option Status} {act : α → State → State} {s : State} {a : α}

/-- A taken command that meets no ground acts, and what the event unit then has follows. -/
theorem exec_acts_drains (hc : c.isFrame = true) (ht : Taken k h s) (hf : handleFrame c s = command k h (.ok a) ground act s)
    (hg : ground a s = none) (hi : (act a s).link.intake = []) : exec c s = .next (drain (act a s)) := by
  obtain ⟨hatt, hready, hperm⟩ := ht
  have hact : handleFrame c s = act a s := hf.trans (command_acts hready hperm hg)
  rw [exec_drains hc hatt (hact ▸ hi), hact]

/-- A taken command that meets no ground and leaves the event unit quiet acts, and that is all. -/
theorem exec_acts (hc : c.isFrame = true) (ht : Taken k h s) (hf : handleFrame c s = command k h (.ok a) ground act s)
    (hg : ground a s = none) (hi : (act a s).link.intake = []) (hq : Quiet (act a s)) : exec c s = .next (act a s) := by
  rw [exec_acts_drains hc ht hf hg hi, drain_quiet hq]

/-- A taken command whose action is a change of state and a reply. -/
theorem exec_replies {st : Status} {d : ReplyData} {t : State} (hc : c.isFrame = true) (ht : Taken k h s)
    (hf : handleFrame c s = command k h (.ok a) ground act s) (hg : ground a s = none) (ha : act a s = reply h k.code st d t)
    (hatt : Attentive t) : exec c s = .next (answered h k st d t) := by
  obtain ⟨hintake, -, hquiet, hroom⟩ := hatt
  have hact : act a s = answered h k st d t := ha.trans (reply_answered Nat.one_pos hroom h k st d)
  rw [exec_acts hc ht hf hg (hact ▸ hintake) (hact ▸ quiet_congr rfl rfl hquiet), hact]

end

/-- Being attentive rests on the link, the part unit, the event unit, the queue and three of the settings. -/
theorem Attentive.congr {s t : State} (h : Attentive s) (hl : t.link.intake = s.link.intake)
    (hr : t.sys.restartPending = s.sys.restartPending) (he : t.events = s.events) (hs : t.settings.sources = s.settings.sources)
    (ho : t.out.queue = s.out.queue) (hcong : t.out.congested = s.out.congested) (hhigh : t.settings.high = s.settings.high) :
    Attentive t := by
  obtain ⟨hintake, hrestart, hquiet, hroom⟩ := h
  refine ⟨hl.trans hintake, hr.trans hrestart, quiet_congr he hs hquiet, ?_⟩
  unfold RoomFor
  rw [ho, hcong, hhigh]
  exact hroom

theorem RoomFor.mono {j k : Nat} {s : State} (h : RoomFor k s) (hjk : j ≤ k) : RoomFor j s := by
  obtain ⟨hlen, hroom⟩ := h
  exact ⟨by omega, hroom.imp_right fun h => by omega⟩

theorem RoomFor.congr {k : Nat} {s t : State} (h : RoomFor k s) (ho : t.out.queue = s.out.queue)
    (hcong : t.out.congested = s.out.congested) (hhigh : t.settings.high = s.settings.high) : RoomFor k t := by
  unfold RoomFor
  rw [ho, hcong, hhigh]
  exact h

theorem offerNotice_room {n : Notice} {s : State} (hroom : RoomFor 1 s) (hr : s.sys.restartPending = false) :
    offerNotice n s = noted n s := offerNotice_noted Nat.one_pos hroom hr n

theorem done_room {h : Header} {k : Kind} {d : ReplyData} {s : State} (hroom : RoomFor 1 s) : done h k d s = answered h k .done d s :=
  done_answered Nat.one_pos hroom h k d

/-- A notice that finds room, and the event unit quiet, joins, and that is all. -/
theorem latchNext_offerNotice {n : Notice} {s : State} (hq : Quiet s) (hroom : RoomFor 1 s) (hr : s.sys.restartPending = false) :
    latchNext (offerNotice n s) = noted n s := by
  rw [offerNotice_noted Nat.one_pos hroom hr]
  exact latchNext_quiet (quiet_congr rfl rfl hq)

/-! ## Messages that join take the tail of the queue -/

theorem join_prefix (m : Message) (s : State) : s.out.queue <+: (join m s).out.queue := by
  rw [join_queue_length]
  split
  · exact List.prefix_append ..
  · exact List.prefix_rfl

theorem offerNotice_prefix (n : Notice) (s : State) : s.out.queue <+: (offerNotice n s).out.queue := by
  unfold offerNotice
  split
  · exact join_prefix ..
  · exact List.prefix_rfl

theorem startMembers_out (f : Context → Context) (l : List Nat) (s : State) : (l.foldl (startMember f) s).out = s.out := by
  obtain ⟨o, h⟩ := startMembers_frame f l s
  rw [h]

theorem jointRelease_prefix (g : Group) (s : State) : s.out.queue <+: (jointRelease g s).out.queue := by
  unfold jointRelease
  refine List.IsPrefix.trans ?_ (offerNotice_prefix _ _)
  rw [setGroup_out, startMembers_out]

theorem arrive_prefix (n : Head) (c : Context) (g : Group) (s : State) : s.out.queue <+: (arrive n c g s).out.queue := by
  unfold arrive
  dsimp only
  split
  · exact jointRelease_prefix g (setGroup g _ (setActive n _ s))
  · exact List.prefix_rfl

theorem settleEnds_prefix (n : Head) (s : State) : s.out.queue <+: (settleEnds n s).out.queue := by
  unfold settleEnds
  split
  · exact List.prefix_rfl
  · split
    · exact List.prefix_rfl
    · exact List.prefix_rfl
    · exact arrive_prefix ..

theorem passSettle_prefix (n : Head) (s : State) : s.out.queue <+: (passSettle n s).out.queue := by
  unfold passSettle
  split
  · exact List.prefix_rfl
  · split
    · exact settleEnds_prefix n s
    · exact List.prefix_rfl

theorem enterHeld_out (n : Head) (c : Context) (r : HoldReason) (s : State) : (enterHeld n c r s).out = s.out := by
  obtain ⟨oc, j, h⟩ := enterHeld_frame n c r s
  rw [h]

theorem holdByEvent_prefix (n : Head) (c : Context) (i : Source) (s : State) :
    s.out.queue <+: (holdByEvent n c i s).out.queue := by
  unfold holdByEvent
  refine List.IsPrefix.trans ?_ (offerNotice_prefix _ _)
  rw [enterHeld_out]

theorem releaseHeld_prefix (n : Head) (c : Context) (s : State) : s.out.queue <+: (releaseHeld n c s).out.queue := by
  unfold releaseHeld
  split
  · exact passSettle_prefix n (setActive n _ s)
  · exact List.prefix_rfl

theorem dispatchHead_prefix (i : Source) (x : Dispatched) (n : Head) :
    x.state.out.queue <+: (dispatchHead i x n).state.out.queue := by
  unfold dispatchHead
  split
  · exact List.prefix_rfl
  · split
    case h_1 | h_2 | h_3 =>
      split
      · exact holdByEvent_prefix ..
      · exact List.prefix_rfl
    case h_5 | h_6 | h_7 =>
      split
      · exact releaseHeld_prefix ..
      · exact List.prefix_rfl
    all_goals exact List.prefix_rfl

theorem dispatchHeads_prefix (i : Source) (l : List Head) (x : Dispatched) :
    x.state.out.queue <+: (l.foldl (dispatchHead i) x).state.out.queue := by
  induction l generalizing x with
  | nil => exact List.prefix_rfl
  | cons n l ih => exact (dispatchHead_prefix i x n).trans (ih _)

theorem dispatchSource_prefix (i : Source) (s : State) : s.out.queue <+: (dispatchSource i s).out.queue := by
  unfold dispatchSource
  refine (dispatchHeads_prefix i heads { state := s, held := 0, woken := 0 }).trans ?_
  dsimp only
  split
  · exact offerNotice_prefix ..
  · exact List.prefix_rfl

theorem latchNext_out (s : State) : (latchNext s).out = s.out := by
  obtain ⟨e, h⟩ := latchNext_frame s
  rw [h]

theorem drainSteps_prefix (k : Nat) (s : State) : s.out.queue <+: (drainSteps k s).out.queue := by
  induction k generalizing s with
  | zero => exact List.prefix_rfl
  | succ k ih =>
    unfold drainSteps
    dsimp only
    rw [← latchNext_out]
    split
    · exact List.prefix_rfl
    · exact (dispatchSource_prefix _ _).trans (ih _)

theorem drain_prefix (s : State) : s.out.queue <+: (drain s).out.queue := drainSteps_prefix 16 s

end Sys2Proof.Machine
end

section
/-! PROOFS. Starts, SAVE and RESTART (chapter 11): O12, O14, O31. -/

namespace Sys2Proof.Machine

-- One theorem at a time: side by side, the proofs ask for more threads than the check's memory limit has stacks for.
set_option Elab.async false

/-! ## Starts -/

/-- Settles O12: a cold start is a start, with the clock at 0 and a spoilt image where a SAVE was in flight. -/
theorem coldStartSetsEveryBlock : Obligations.ColdStartSetsEveryBlock := by
  intro s
  refine ⟨coldStart s, rfl, starting_atStart .., rfl, rfl, rfl, rfl, rfl, fun hsaving => ?_⟩
  have himage : (coldStart s).sys.image = spoilt s.sys.image := by
    change imageAtColdStart s.sys = _
    rw [imageAtColdStart, if_pos hsaving]
  rw [himage]
  exact spoilt_not_usable _

/-! ## SAVE (R183, R184) -/

theorem handleFrame_save (h : Header) (b : Body Unit) (s : State) :
    handleFrame (.save h b) s = command .save h b groundSave (actSave h) s := rfl

theorem handleFrame_restart (h : Header) (b : Body Unit) (s : State) :
    handleFrame (.restart h b) s = command .restart h b groundSave (actRestart h) s := rfl

theorem groundSave_busy {s : State} (h : s.sys.saving.isSome) : groundSave () s = some .busy := by simp [groundSave, h]

theorem groundSave_idle {s : State} (h : s.sys.saving = none) : groundSave () s = none := by simp [groundSave, h]

theorem imageUsable_iff (i : Image) : imageUsable i = true ↔ settingsOk i.items = true ∧ i.check = imageCheck i.items := by
  simp [imageUsable]

theorem writtenImage_eq (copy : Settings) (written : Bool) : writtenImage copy written =
    { items := copy, check := if written then imageCheck copy else ~~~imageCheck copy } := by
  cases written <;> rfl

/-- Settles O14: the ground of a SAVE in flight, the copy it takes, and what an image is usable by. -/
theorem saveWritesTheCopiedSettings : Obligations.SaveWritesTheCopiedSettings := by
  refine ⟨fun h s ht => ⟨fun hbusy => ?busy, fun hidle => ?accepted⟩, fun written s copy hsaving hq hroom hr => ?completes,
    imageUsable_iff, spoilt_not_usable, fun copy => ?written⟩
  case busy => exact exec_refuses rfl ht (handleFrame_save ..) (groundSave_busy hbusy)
  case accepted =>
    exact exec_replies (t := beginSave s) rfl ht (handleFrame_save ..) (groundSave_idle hidle) rfl
      (ht.1.congr rfl rfl rfl rfl rfl rfl rfl)
  case completes =>
    simp only [exec, execSaveComplete, hsaving]
    rw [latchNext_offerNotice, writtenImage_eq]
    · exact quiet_congr rfl rfl hq
    · exact hroom.congr rfl rfl rfl
    · exact hr
  case written => exact writtenImage_usable copy true

/-! ## RESTART (R185, R186) -/

theorem joinReading_refused {s : State} (h : hasEntry s = false) : joinReading s = s := by
  unfold joinReading
  split
  · rfl
  · rw [if_neg (by simp [h])]

theorem offerReadings_refused {s : State} (h : hasEntry s = false) : offerReadings s = s := by
  simp only [offerReadings, joinReading_refused h]

theorem hasEntry_of_restart {s : State} (h : s.sys.restartPending = true) : hasEntry s = false := by simp [hasEntry, h]

theorem exec_restart_done {h : Header} {s : State} (ht : Taken .restart h s) (hidle : s.sys.saving = none) :
    exec (.restart h (.ok ())) s = .next
      { answered h .restart .done .none s with sys := { s.sys with restartPending := true } } := by
  obtain ⟨hintake, -, hquiet, hroom⟩ := id ht.1
  have hact : actRestart h () s = { answered h .restart .done .none s with sys := { s.sys with restartPending := true } } := by
    rw [actRestart, done_answered Nat.one_pos hroom]
    rfl
  rw [exec_acts rfl ht (handleFrame_restart ..) (groundSave_idle hidle) (hact ▸ hintake) (hact ▸ quiet_congr rfl rfl hquiet), hact]

/-- A start leaves nothing latched and nothing to latch. -/
theorem starting_quiet (pending sys clock tide pins choices) : Quiet (State.starting pending sys clock tide pins choices) := by
  refine ⟨rfl, ?_⟩
  simp [nextSource, State.starting, inSet, List.find?_eq_none]

theorem claimEntry_no_frame {s : State} (h : s.link.intake = []) (k : Nat) : claimEntry k s = s := claimEntry_none (.inl h) k

theorem exec_transmissionComplete_restart {s : State} {m : Message} (ht : s.out.transmitting = true)
    (hr : s.sys.restartPending = true) (hq : s.out.queue = [m]) :
    exec .transmissionComplete s = .next (restartNow { s with out := freeEntry s.settings.low s.out }) := by
  have hend : endTransmission s = restartNow { s with out := freeEntry s.settings.low s.out } := by
    simp [endTransmission, hr, freeEntry, hq]
  simp only [exec, execTransmissionComplete, ht, if_true, offerReadings_refused (hasEntry_of_restart hr), hend]
  rw [latchNext_quiet (s := restartNow _) (starting_quiet ..), claimEntry_no_frame rfl]

/-- Settles O31: the reply joins before the restart is pending; the end of its transmission is a start. -/
theorem restartWaitsForItsReplyAndThenStarts : Obligations.RestartWaitsForItsReplyAndThenStarts := by
  refine ⟨fun h s ht => ⟨fun hbusy => ?_, exec_restart_done ht⟩, fun s m ht hr hq => ?_⟩
  · exact exec_refuses rfl ht (handleFrame_restart ..) (groundSave_busy hbusy)
  · refine ⟨_, exec_transmissionComplete_restart ht hr hq, starting_atStart .., rfl, rfl, rfl, ?_, rfl⟩
    change startTide s.clock.state = _
    cases s.clock.state <;> rfl

end Sys2Proof.Machine
end

section
/-! PROOFS. The event unit: sets of flags, entering modes, and the dispatch that finds no context (chapter 7). -/

namespace Sys2Proof.Machine

-- One theorem at a time: side by side, the proofs ask for more threads than the check's memory limit has stacks for.
set_option Elab.async false

/-! ## Sets of flags -/

theorem inSet_withMember {w : Nat} (v : BitVec w) {n : Nat} (hn : n < w) (j : Nat) :
    inSet (withMember v n) j = (inSet v j || decide (n = j)) := by
  simp [inSet, withMember, BitVec.getLsbD_twoPow, hn]

theorem inSet_withoutMember {w : Nat} (v : BitVec w) (n j : Nat) :
    inSet (withoutMember v n) j = (inSet v j && !decide (n = j)) := by
  by_cases hj : j < w
  · simp [inSet, withoutMember, hj, eq_comm (a := n)]
  · simp [inSet, withoutMember, hj, BitVec.getLsbD_of_ge v j (by omega)]

theorem decide_val_eq {n : Nat} (i j : Fin n) : decide (i.val = j.val) = decide (i = j) := decide_eq_decide.mpr Fin.ext_iff.symm

/-! ## A request (R123, R124) -/

theorem raise_ready {i : Source} {s : State} (hr : s.sys.part = .ready) (hm : s.settings.sources[i].mode ≠ .off) :
    raise i s = { s with events := { s.events with pending := withMember s.events.pending i.val } } := if_pos ⟨hr, hm⟩

theorem raise_refused {i : Source} {s : State} (h : s.sys.part = .starting ∨ s.settings.sources[i].mode = .off) : raise i s = s := by
  refine if_neg ?_
  rintro ⟨hr, hm⟩
  obtain h | h := h
  · simp [h] at hr
  · exact hm h

/-! ## Entering a mode (R121, R122) -/

/-- Entering its mode, the line asks for a request: it is active in a level mode. -/
def asks (s : State) (i : Fin 4) : Bool :=
  s.settings.sources[lineSource i].mode == .high && inSet s.events.level i.val ||
    s.settings.sources[lineSource i].mode == .low && !inSet s.events.level i.val

/-- Entering its mode, the line is inactive in a level mode. -/
def rests (s : State) (i : Fin 4) : Bool :=
  s.settings.sources[lineSource i].mode == .high && !inSet s.events.level i.val ||
    s.settings.sources[lineSource i].mode == .low && inSet s.events.level i.val

/-- Some of the lines have entered their modes, and nothing else has changed. -/
structure Enters (l : List (Fin 4)) (s t : State) : Prop where
  same : t = { s with events := { s.events with pending := t.events.pending, rearm := t.events.rearm } }
  pending : ∀ j : Nat, inSet t.events.pending j = (inSet s.events.pending j || decide (∃ i ∈ l, i.val = j ∧ asks s i = true))
  rearm : ∀ i : Fin 4, inSet t.events.rearm i.val = if i ∈ l then rests s i else inSet s.events.rearm i.val

theorem Enters.nil (s : State) : Enters [] s s := ⟨rfl, by simp, by simp⟩

theorem inSet_setRearm (i : Fin 4) (b : Bool) (s : State) (k : Fin 4) :
    inSet (setRearm i b s).events.rearm k.val = if k = i then b else inSet s.events.rearm k.val := by
  have hval : (i.val = k.val) ↔ k = i := by rw [eq_comm, Fin.ext_iff]
  cases b
  · change inSet (withoutMember s.events.rearm i.val) k.val = _
    rw [inSet_withoutMember]
    by_cases h : k = i <;> simp [hval, h]
  · change inSet (withMember s.events.rearm i.val) k.val = _
    rw [inSet_withMember _ i.isLt]
    by_cases h : k = i <;> simp [hval, h]

/-- A line that asks for no request has its re-arm flag set or cleared. -/
theorem Enters.setRearm {s : State} {i : Fin 4} (h : asks s i = false) : Enters [i] s (setRearm i (rests s i) s) where
  same := rfl
  pending j := by
    have hnone : decide (∃ k ∈ [i], k.val = j ∧ asks s k = true) = false := by simp [h]
    rw [hnone, Bool.or_false]
    rfl
  rearm k := by
    rw [inSet_setRearm]
    by_cases hk : k = i <;> simp [hk]

/-- A line that asks for a request raises it, its re-arm flag cleared. -/
theorem Enters.raise {s : State} {i : Fin 4} (hr : s.sys.part = .ready) (h : asks s i = true) :
    Enters [i] s (raise (lineSource i) (Machine.setRearm i false s)) := by
  have hmode : s.settings.sources[lineSource i].mode ≠ .off := fun hoff => by
    simp only [asks, hoff] at h
    exact Bool.noConfusion h
  have hrests : rests s i = false := by
    revert h
    unfold asks rests
    cases s.settings.sources[lineSource i].mode <;> simp
  rw [raise_ready (s := Machine.setRearm i false s) hr hmode]
  refine ⟨rfl, fun j => ?_, fun k => ?_⟩
  · change inSet (withMember s.events.pending i.val) j = _
    rw [inSet_withMember _ (by omega)]
    simp [h]
  · change inSet (Machine.setRearm i false s).events.rearm k.val = _
    rw [inSet_setRearm]
    by_cases hk : k = i <;> simp [hk, hrests]

theorem enterMode_enters {s : State} (hr : s.sys.part = .ready) (i : Fin 4) : Enters [i] s (enterMode i s) := by
  have heq : enterMode i s = if asks s i then raise (lineSource i) (setRearm i false s) else setRearm i (rests s i) s := by
    unfold enterMode asks rests
    generalize s.settings.sources[lineSource i].mode = m
    generalize inSet s.events.level i.val = b
    cases m <;> cases b <;> rfl
  rw [heq]
  split
  · rename_i h
    exact .raise hr h
  · rename_i h
    exact .setRearm (Bool.eq_false_iff.mpr h)

theorem Enters.trans {l m : List (Fin 4)} {s t u : State} (h : Enters l s t) (k : Enters m t u) : Enters (l ++ m) s u := by
  have hasks (i : Fin 4) : asks t i = asks s i := by rw [h.same]; rfl
  have hrests (i : Fin 4) : rests t i = rests s i := by rw [h.same]; rfl
  refine ⟨?_, fun j => ?_, fun i => ?_⟩
  · rw [k.same, h.same]
  · have hor : decide (∃ i ∈ l ++ m, i.val = j ∧ asks s i = true) =
        (decide (∃ i ∈ l, i.val = j ∧ asks s i = true) || decide (∃ i ∈ m, i.val = j ∧ asks s i = true)) := by
      rw [← Bool.decide_or]
      refine decide_eq_decide.mpr ?_
      simp only [List.mem_append, or_and_right, exists_or]
    simp only [k.pending, h.pending, hasks, hor, Bool.or_assoc]
  · rw [k.rearm, h.rearm, hrests]
    by_cases hm : i ∈ m
    · simp [hm]
    · simp [hm]

theorem Enters.ready {l : List (Fin 4)} {s t : State} (h : Enters l s t) (hr : s.sys.part = .ready) : t.sys.part = .ready := by
  rw [h.same]
  exact hr

theorem enterModes_enters (l : List (Fin 4)) {s : State} (hr : s.sys.part = .ready) :
    Enters l s (l.foldl (fun u i => enterMode i u) s) := by
  induction l generalizing s with
  | nil => exact .nil s
  | cons i l ih =>
    have hone := enterMode_enters hr i
    exact hone.trans (ih (hone.ready hr))

/-! ## Latching (R125) -/

/-- The source is pending and not masked. -/
def askedFor (s : State) (i : Source) : Bool := inSet s.events.pending i.val && !s.settings.sources[i].masked

theorem nextSource_eq (s : State) : nextSource s = sourcesDown.find? (askedFor s) := rfl

theorem latchNext_some {s : State} {i : Source} (hl : s.events.latch = none) (hn : nextSource s = some i) :
    latchNext s = { s with events := { s.events with pending := withoutMember s.events.pending i.val, latch := some i } } := by
  simp only [latchNext, hl, hn]

theorem latchNext_latched {s : State} {i : Source} (hl : s.events.latch = some i) : latchNext s = s := by
  simp only [latchNext, hl]

theorem quiet_iff {s : State} : Quiet s ↔ s.events.latch = none ∧ ∀ i : Source, askedFor s i = false := by
  have hmem : ∀ i : Source, i ∈ sourcesDown := by decide
  unfold Quiet
  rw [nextSource_eq, List.find?_eq_none]
  simp [hmem]

/-! ## A dispatch that finds no context (R126, R127) -/

theorem dispatchHeads_vacant {s : State} (h : ∀ n : Head, s.occ.active[n] = none) (i : Source) (l : List Head) :
    l.foldl (dispatchHead i) { state := s, held := 0, woken := 0 } = { state := s, held := 0, woken := 0 } := by
  induction l with
  | nil => rfl
  | cons n l ih =>
    have hone : dispatchHead i { state := s, held := 0, woken := 0 } n = { state := s, held := 0, woken := 0 } := by
      unfold dispatchHead
      rw [h n]
    rw [List.foldl_cons, hone, ih]

/-- The state after a source was latched and dispatched with no context to hold or wake. -/
def served (i : Source) (s : State) : State :=
  let t : State := { s with events := { s.events with pending := withoutMember s.events.pending i.val } }
  if s.settings.sources[i].notify then noted (.event i (levelOf i s) 0 0) t else t

theorem dispatchSource_vacant {s : State} (h : ∀ n : Head, s.occ.active[n] = none) (hl : s.events.latch = none)
    (hroom : RoomFor 1 s) (hr : s.sys.restartPending = false) (i : Source) :
    dispatchSource i { s with events := { s.events with pending := withoutMember s.events.pending i.val, latch := some i } } =
      served i s := by
  unfold dispatchSource served
  rw [dispatchHeads_vacant (by exact h)]
  dsimp only
  split
  · rw [offerNotice_room (by exact hroom.congr rfl rfl rfl) (by exact hr)]
    simp only [noted, told, levelOf, now, hl]
  · simp only [hl]

/-- A source that is pending and not masked is dispatched; any other is left. -/
def serveIf (s : State) (i : Source) : State := if askedFor s i then served i s else s

/-- What a dispatch that finds no context rests on. -/
structure Vacant (k : Nat) (s : State) : Prop where
  active : ∀ n : Head, s.occ.active[n] = none
  latch : s.events.latch = none
  room : RoomFor k s
  restart : s.sys.restartPending = false

theorem served_vacant {k : Nat} {s : State} (h : Vacant (k + 1) s) (i : Source) : Vacant k (served i s) := by
  obtain ⟨ha, hl, hroom, hr⟩ := h
  unfold served
  dsimp only
  split
  · exact ⟨ha, hl, room_told (s := { s with events := { s.events with pending := withoutMember s.events.pending i.val } }) hroom _, hr⟩
  · exact ⟨ha, hl, (hroom.congr rfl rfl rfl).mono (Nat.le_succ k), hr⟩

theorem askedFor_served (i j : Source) (s : State) : askedFor (served i s) j = (askedFor s j && !decide (i = j)) := by
  have hp : (served i s).events.pending = withoutMember s.events.pending i.val ∧ (served i s).settings = s.settings := by
    unfold served
    dsimp only
    split <;> exact ⟨rfl, rfl⟩
  unfold askedFor
  rw [hp.1, hp.2, inSet_withoutMember, decide_val_eq, Bool.and_right_comm]

/-- The sources pending and not masked are dispatched in the order of a list that holds them all. -/
theorem drainSteps_vacant {l : List Source} {k : Nat} {s : State} (h : Vacant l.length s) (hk : l.length < k)
    (hall : ∀ i : Source, askedFor s i = true → i ∈ l) (hl : l.Sublist sourcesDown) : drainSteps k s = l.foldl serveIf s := by
  induction l generalizing k s with
  | nil =>
    obtain ⟨k, rfl⟩ : ∃ j, k = j + 1 := ⟨k - 1, by simp at hk; omega⟩
    have hq : Quiet s := quiet_iff.mpr ⟨h.latch, fun i => Bool.eq_false_iff.mpr fun hi => by simpa using hall i hi⟩
    simp only [drainSteps, latchNext_quiet hq, h.latch, List.foldl_nil]
  | cons i l ih =>
    have hnodup : (i :: l).Nodup := hl.nodup (by decide)
    obtain ⟨hi, -⟩ := List.nodup_cons.mp hnodup
    rw [List.foldl_cons]
    by_cases hasked : askedFor s i = true
    · obtain ⟨k, rfl⟩ : ∃ j, k = j + 1 := ⟨k - 1, by simp at hk; omega⟩
      have hnext : nextSource s = some i := by
        have hdown : ∀ a ∈ sourcesDown, ∀ b ∈ sourcesDown, a ∈ sourcesDown := fun a ha _ _ => ha
        have hpair : sourcesDown.Pairwise (· > ·) := by decide
        have hfirst : ∀ j, askedFor s j = true → j ≠ i → j < i := fun j hj hne =>
          List.rel_of_pairwise_cons (hpair.sublist hl) ((List.mem_cons.mp (hall j hj)).resolve_left hne)
        cases hn : nextSource s with
        | none =>
          rw [nextSource_eq, List.find?_eq_none] at hn
          exact absurd hasked (hn i (hl.subset (List.mem_cons_self ..)))
        | some j =>
          rw [nextSource_eq, List.find?_eq_some_iff_append] at hn
          obtain ⟨hj, as, bs, heq, hbefore⟩ := hn
          by_contra hne
          have hne : j ≠ i := fun h => hne (congrArg some h)
          have hji := hfirst j hj hne
          have himem : i ∈ as ++ j :: bs := heq ▸ hl.subset (List.mem_cons_self ..)
          obtain hia | hib := List.mem_append.mp himem
          · have := hbefore i hia
            simp [hasked] at this
          · obtain rfl | hib := List.mem_cons.mp hib
            · exact hne rfl
            · rw [heq, List.pairwise_append] at hpair
              have := List.rel_of_pairwise_cons hpair.2.1 hib
              exact absurd hji (lt_asymm this)
      have hstep : drainSteps (k + 1) s = drainSteps k (served i s) := by
        conv_lhs => unfold drainSteps
        rw [latchNext_some h.latch hnext]
        dsimp only
        rw [dispatchSource_vacant h.active h.latch (h.room.mono (by simp)) h.restart]
      rw [hstep, serveIf, if_pos hasked]
      refine ih (served_vacant h i) (by simpa using hk) (fun j hj => ?_) (List.sublist_of_cons_sublist hl)
      rw [askedFor_served, Bool.and_eq_true] at hj
      obtain ⟨hj, hne⟩ := hj
      exact (List.mem_cons.mp (hall j hj)).resolve_left fun h => by simp [h] at hne
    · rw [serveIf, if_neg hasked]
      refine ih ⟨h.active, h.latch, h.room.mono (by simp), h.restart⟩ (by simp at hk; omega) (fun j hj => ?_)
        (List.sublist_of_cons_sublist hl)
      exact (List.mem_cons.mp (hall j hj)).resolve_left fun h => hasked (h ▸ hj)

/-- The notices of the sources of a list that are dispatched and notify. -/
def eventNotices (s : State) (l : List Source) : List Message :=
  (l.filter fun i => askedFor s i && s.settings.sources[i].notify).map fun i => .notice (now s) (.event i (levelOf i s) 0 0)

theorem serveIf_frame (s : State) (i : Source) : ∃ o p, serveIf s i = { s with out := o, events := { s.events with pending := p } } := by
  unfold serveIf
  split
  · unfold served
    dsimp only
    split <;> exact ⟨_, _, rfl⟩
  · exact ⟨_, _, rfl⟩

theorem served_queue (i : Source) (s : State) : (served i s).out.queue =
    s.out.queue ++ if s.settings.sources[i].notify then [.notice (now s) (.event i (levelOf i s) 0 0)] else [] := by
  unfold served
  dsimp only
  split
  · exact told_queue ..
  · simp

theorem serveIf_queue (s : State) (i : Source) : (serveIf s i).out.queue = s.out.queue ++ eventNotices s [i] := by
  unfold serveIf eventNotices
  by_cases h : askedFor s i = true
  · rw [if_pos h, served_queue]
    cases hn : s.settings.sources[i].notify <;> simp [h, hn, -Fin.getElem_fin]
  · simp [h]

theorem serveIf_askedFor (s : State) (i j : Source) : askedFor (serveIf s i) j = (askedFor s j && !decide (i = j)) := by
  unfold serveIf
  split
  · exact askedFor_served ..
  · rename_i h
    by_cases hij : i = j
    · subst hij
      simp [h]
    · simp [hij]

/-- The dispatch of the sources of a list, each at most once. -/
theorem serveAll_queue {l : List Source} (hl : l.Nodup) (s : State) :
    (l.foldl serveIf s).out.queue = s.out.queue ++ eventNotices s l := by
  induction l generalizing s with
  | nil => simp [eventNotices]
  | cons i l ih =>
    obtain ⟨hi, hl⟩ := List.nodup_cons.mp hl
    have hsame : eventNotices (serveIf s i) l = eventNotices s l := by
      obtain ⟨o, p, h⟩ := serveIf_frame s i
      have hfilter : (l.filter fun j => askedFor (serveIf s i) j && (serveIf s i).settings.sources[j].notify) =
          l.filter fun j => askedFor s j && s.settings.sources[j].notify := by
        refine List.filter_congr fun j hj => ?_
        have hne : i ≠ j := fun h => hi (h ▸ hj)
        rw [serveIf_askedFor, h]
        simp [hne]
      unfold eventNotices
      rw [hfilter, h]
      rfl
    have hcons : eventNotices s (i :: l) = eventNotices s [i] ++ eventNotices s l := by
      simp only [eventNotices, List.filter_cons, List.filter_nil]
      split <;> simp
    rw [List.foldl_cons, ih hl, serveIf_queue, hsame, hcons, List.append_assoc]

theorem serveAll_frame (l : List Source) (s : State) :
    ∃ o p, l.foldl serveIf s = { s with out := o, events := { s.events with pending := p } } := by
  induction l generalizing s with
  | nil => exact ⟨_, _, rfl⟩
  | cons i l ih =>
    obtain ⟨o, p, h⟩ := serveIf_frame s i
    obtain ⟨o', p', h'⟩ := ih (serveIf s i)
    rw [List.foldl_cons, h', h]
    exact ⟨o', p', rfl⟩

theorem serveAll_pending (l : List Source) (s : State) (j : Source) :
    inSet (l.foldl serveIf s).events.pending j.val = (inSet s.events.pending j.val && !(decide (j ∈ l) && !s.settings.sources[j].masked)) := by
  induction l generalizing s with
  | nil => simp
  | cons i l ih =>
    have hset : (serveIf s i).settings = s.settings := by
      obtain ⟨o, p, h⟩ := serveIf_frame s i
      rw [h]
    have hone : inSet (serveIf s i).events.pending j.val =
        (inSet s.events.pending j.val && !(decide (i = j) && !s.settings.sources[j].masked)) := by
      unfold serveIf
      split
      · rename_i h
        have hp : (served i s).events.pending = withoutMember s.events.pending i.val := by
          unfold served
          dsimp only
          split <;> rfl
        rw [hp, inSet_withoutMember, decide_val_eq]
        by_cases hij : i = j
        · subst hij
          simp only [askedFor, Bool.and_eq_true] at h
          simp [h.1, h.2, -Fin.getElem_fin]
        · simp [hij]
      · rename_i h
        by_cases hij : i = j
        · subst hij
          simp only [askedFor, Bool.and_eq_true, not_and] at h
          cases hp : inSet s.events.pending i.val
          · simp
          · have := h hp
            simp_all
        · simp [hij]
    have hmem : decide (j ∈ i :: l) = (decide (i = j) || decide (j ∈ l)) := by
      rw [← Bool.decide_or]
      exact decide_eq_decide.mpr (by rw [List.mem_cons, eq_comm])
    rw [List.foldl_cons, ih, hone, hset, hmem]
    cases inSet s.events.pending j.val <;> cases decide (i = j) <;> cases decide (j ∈ l) <;>
      cases s.settings.sources[j].masked <;> rfl

end Sys2Proof.Machine
end

section
/-! PROOFS. The end of a load (R182): O13. -/

namespace Sys2Proof.Machine

-- One theorem at a time: side by side, the proofs ask for more threads than the check's memory limit has stacks for.
set_option Elab.async false

/-! ## What a load can change -/

/-- The START notice of a load has been offered. -/
def loadNoticed (s : State) : State :=
  offerNotice (.start s.sys.startKind (loadOutcome s.sys.image) s.clock.state) (takeSettings s)

theorem finishLoad_eq (s : State) : finishLoad s = drain (lines.foldl (fun u i => enterMode i u) (loadNoticed s)) := rfl

theorem loadNoticed_frame (s : State) : ∃ o e, loadNoticed s = { takeSettings s with out := o, events := e } := offerNotice_frame ..

theorem loadNoticed_ready (s : State) : (loadNoticed s).sys.part = .ready := by
  obtain ⟨o, e, h⟩ := loadNoticed_frame s
  rw [h]
  rfl

theorem load_enters (s : State) : Enters lines (loadNoticed s) (lines.foldl (fun u i => enterMode i u) (loadNoticed s)) :=
  enterModes_enters lines (loadNoticed_ready s)

theorem finishLoad_frame (s : State) :
    ∃ o e oc j, finishLoad s = { takeSettings s with out := o, events := e, occ := oc, groups := j } := by
  obtain ⟨o, e, oc, j, hd⟩ := drain_frame (lines.foldl (fun u i => enterMode i u) (loadNoticed s))
  obtain ⟨o', e', hn⟩ := loadNoticed_frame s
  refine ⟨o, e, oc, j, ?_⟩
  rw [finishLoad_eq, hd, (load_enters s).same, hn]

theorem exec_loadComplete {s : State} (h : s.sys.part = .starting) : exec .loadComplete s = .next (finishLoad s) := by
  simp only [exec, execLoadComplete, h, if_true]

theorem finishLoad_prefix {s : State} (hr : s.sys.restartPending = false) (hl : s.out.queue.length < 48) :
    (s.out.queue ++ [.notice s.clock.time (.start s.sys.startKind (loadOutcome s.sys.image) s.clock.state)]) <+:
      (finishLoad s).out.queue := by
  have hentry : hasEntry (takeSettings s) = true := by
    change (decide (s.out.queue.length < 48) && !s.sys.restartPending) = true
    simp [hl, hr]
  have hnoticed : (loadNoticed s).out.queue =
      s.out.queue ++ [.notice s.clock.time (.start s.sys.startKind (loadOutcome s.sys.image) s.clock.state)] := by
    unfold loadNoticed offerNotice
    rw [hentry, if_pos rfl, join_queue_length, if_pos (by exact hl)]
    rfl
  have hlines : (lines.foldl (fun u i => enterMode i u) (loadNoticed s)).out = (loadNoticed s).out := by rw [(load_enters s).same]
  rw [← hnoticed, ← hlines, finishLoad_eq]
  exact drain_prefix _

theorem portUnder_off {enable : Bool} {share : Nat} {p : HeadPort} (h : p.state = .off) :
    (portUnder enable share p).state = if enable = true ∧ 0 < share then .awaiting else .off := by
  unfold portUnder
  cases enable
  · simp [portOff]
  · by_cases hs : 0 < share
    · simp [h, hs]
    · simp [hs, portOff]

theorem takeSettings_port (s : State) (n : Head) : (takeSettings s).ports[n] =
    portUnder (takeSettings s).settings.heads[n].enable (Config.share (takeSettings s).settings.plan n) s.ports[n] :=
  vget_four (fun n => portUnder (takeSettings s).settings.heads[n].enable
    (Config.share (takeSettings s).settings.plan n) s.ports[n]) n

theorem loadCompleteTakesTheImage : Claim.LoadCompleteTakesTheImage := by
  intro s hstart hr hl hoff
  refine ⟨finishLoad s, exec_loadComplete hstart, ?_⟩
  have hprefix := finishLoad_prefix hr hl
  obtain ⟨o, e, oc, j, h⟩ := finishLoad_frame s
  rw [h] at hprefix ⊢
  refine ⟨rfl, rfl, fun n => ?_, ?_, hprefix, rfl, rfl, rfl, rfl, rfl, rfl, rfl, rfl, rfl, rfl⟩
  · change (takeSettings s).ports[n].state = _
    rw [takeSettings_port]
    exact portUnder_off (hoff n)
  · change { s.pages with tide := startTide s.clock.state } = _
    cases s.clock.state <;> rfl

/-! ## The level modes -/

/-- What stands before the first latching of a load: the notice has joined, and every line has entered its mode (log 17). -/
theorem load_entered {s : State} (hl : s.events.latch = none) (ha : ∀ n : Head, s.occ.active[n] = none)
    (hr : s.sys.restartPending = false) (hroom : RoomFor 5 (takeSettings s)) :
    loadNoticed s = noted (.start s.sys.startKind (loadOutcome s.sys.image) s.clock.state) (takeSettings s) ∧
      Vacant 4 (lines.foldl (fun u i => enterMode i u) (loadNoticed s)) := by
  have hnoticed : loadNoticed s = noted (.start s.sys.startKind (loadOutcome s.sys.image) s.clock.state) (takeSettings s) :=
    offerNotice_room (hroom.mono (by decide)) hr
  refine ⟨hnoticed, ?_⟩
  rw [(load_enters s).same, hnoticed]
  exact ⟨ha, hl, (room_told hroom _).congr rfl rfl rfl, hr⟩

/-- The sources of the external lines, EL3 first. -/
def linesDown : List Source := [3, 2, 1, 0]

theorem linesDown_eq : linesDown = ([3, 2, 1, 0] : List (Fin 4)).map lineSource := by decide

theorem mem_lines : ∀ i : Fin 4, i ∈ lines := by decide

theorem mem_linesDown : ∀ j : Source, j.val < 4 → j ∈ linesDown := by decide

theorem levelOf_line (i : Fin 4) (s : State) : levelOf (lineSource i) s = some (inSet s.events.level i.val) := if_pos i.isLt

/-- The notices of a dispatch of lines alone, by the lines. -/
theorem eventNotices_lines (s : State) : eventNotices s linesDown =
    (([3, 2, 1, 0] : List (Fin 4)).filter fun i => askedFor s (lineSource i) && s.settings.sources[lineSource i].notify).map fun i =>
      .notice (now s) (.event (lineSource i) (some (inSet s.events.level i.val)) 0 0) := by
  unfold eventNotices
  rw [linesDown_eq, List.filter_map, List.map_map]
  refine List.map_congr_left fun i _ => ?_
  simp only [Function.comp_apply, levelOf_line]

theorem loadCompleteEntersLevelModes : Claim.LoadCompleteEntersLevelModes := by
  intro s t level raised hstart hr hlatch hpend hactive hlen ht hcong hlevel hraised
  have ht : finishLoad s = t := by
    rw [exec_loadComplete hstart] at ht
    exact Host.Outcome.next.inj ht
  have hsettings : t.settings = (takeSettings s).settings := by
    obtain ⟨o, e, oc, j, h⟩ := finishLoad_frame s
    rw [← ht, h]
  have hroom : RoomFor 5 (takeSettings s) := ⟨hlen, hcong.imp_right fun h => hsettings ▸ h⟩
  obtain ⟨hnoticed, hvacant⟩ := load_entered hlatch hactive hr hroom
  have henters := load_enters s
  set e := lines.foldl (fun u i => enterMode i u) (loadNoticed s) with he
  rw [hnoticed] at henters
  have hempty (j : Nat) : inSet (noted (.start s.sys.startKind (loadOutcome s.sys.image) s.clock.state) (takeSettings s)).events.pending j
      = false := by
    change inSet s.events.pending j = false
    simp [hpend, inSet]
  have hasks (i : Fin 4) : asks (noted (.start s.sys.startKind (loadOutcome s.sys.image) s.clock.state) (takeSettings s)) i = raised i := by
    rw [hraised, hsettings, hlevel]
    rfl
  have hpending (j : Nat) : inSet e.events.pending j = decide (∃ i ∈ lines, i.val = j ∧ raised i = true) := by
    rw [henters.pending, hempty, Bool.false_or]
    simp only [hasks]
  have hline (i : Fin 4) : inSet e.events.pending (lineSource i).val = raised i := by
    rw [hpending]
    cases hi : raised i
    · refine decide_eq_false ?_
      rintro ⟨k, -, hk, hk'⟩
      rw [Fin.ext hk, hi] at hk'
      exact Bool.noConfusion hk'
    · exact decide_eq_true ⟨i, mem_lines i, rfl, hi⟩
  have hupper (j : Source) (hj : 4 ≤ j.val) : inSet e.events.pending j.val = false := by
    rw [hpending]
    refine decide_eq_false ?_
    rintro ⟨k, -, hk, -⟩
    omega
  have hsources : e.settings = t.settings := by rw [henters.same, hsettings]; rfl
  have hall (j : Source) (hj : askedFor e j = true) : j ∈ linesDown := by
    refine mem_linesDown j ?_
    by_contra hge
    simp [askedFor, hupper j (by omega)] at hj
  have hdrain : t = linesDown.foldl serveIf e := by
    rw [← ht, finishLoad_eq, ← he]
    exact drainSteps_vacant hvacant (by decide) hall (by decide)
  obtain ⟨o, p, hframe⟩ := serveAll_frame linesDown e
  have hqueue := serveAll_queue (l := linesDown) (by decide) e
  have hserved := serveAll_pending linesDown e
  rw [← hdrain] at hframe hqueue hserved
  refine ⟨?_, ?_, ?_, ?_, fun i => ?_, fun i => ?_, fun j hj => ?_, ?_⟩
  · rw [hframe, henters.same]; rfl
  · rw [hframe, henters.same]; rfl
  · rw [hframe]; exact hvacant.latch
  · rw [hframe, henters.same]; rfl
  · have hrearm : t.events.rearm = e.events.rearm := by rw [hframe]
    change inSet t.events.rearm i.val = _
    rw [hrearm, henters.rearm, if_pos (mem_lines i), hlevel, hsettings]
    rfl
  · have hmem : lineSource i ∈ linesDown := mem_linesDown _ i.isLt
    change inSet t.events.pending (lineSource i).val = _
    rw [hserved, hline, hsources, decide_eq_true hmem, Bool.true_and, Bool.not_not]
  · change inSet t.events.pending j.val = false
    rw [hserved, hupper j hj, Bool.false_and]
  · have hqe : e.out.queue = s.out.queue ++ [.notice s.clock.time (.start s.sys.startKind t.sys.loadResult s.clock.state)] := by
      have hload : t.sys.loadResult = loadOutcome s.sys.image := by
        obtain ⟨o, e, oc, j, h⟩ := finishLoad_frame s
        rw [← ht, h]
        rfl
      rw [henters.same, hload]
      exact told_queue ..
    rw [hqueue, hqe, eventNotices_lines]
    have hnow : now e = s.clock.time := by rw [henters.same]; rfl
    have hlev : e.events.level = s.events.level := by rw [henters.same]; rfl
    simp only [askedFor, hline, hsources, hnow, hlev, hlevel]
    rfl

/-- Settles O13: the settings of the image, and the dispatch of the lines' requests with no context to hold or wake. -/
theorem loadCompletePutsSettingsInForce : Obligations.LoadCompletePutsSettingsInForce :=
  ⟨loadCompleteTakesTheImage, loadCompleteEntersLevelModes⟩

end Sys2Proof.Machine
end

section
/-! PROOFS. No operation but the receiver and the taking of frames touches the survey link's receiver or intake. -/

namespace Sys2Proof.Machine

-- One theorem at a time: side by side, the proofs ask for more threads than the check's memory limit has stacks for.
set_option Elab.async false

/-! ## The operations keep the link -/

@[simp] theorem raise_link (i : Source) (s : State) : (raise i s).link = s.link := by
  obtain ⟨e, h⟩ := raise_frame i s
  rw [h]

@[simp] theorem join_link (m : Message) (s : State) : (join m s).link = s.link := by
  obtain ⟨o, e, h⟩ := join_frame m s
  rw [h]

@[simp] theorem reply_link (h : Header) (k : Nat) (st : Status) (d : ReplyData) (s : State) : (reply h k st d s).link = s.link :=
  join_link ..

@[simp] theorem done_link (h : Header) (k : Kind) (d : ReplyData) (s : State) : (done h k d s).link = s.link := join_link ..

@[simp] theorem offerNotice_link (n : Notice) (s : State) : (offerNotice n s).link = s.link := by
  obtain ⟨o, e, h⟩ := offerNotice_frame n s
  rw [h]

@[simp] theorem offerBatch_link (n : Head) (c : BatchCause) (s : State) : (offerBatch n c s).link = s.link := by
  obtain ⟨o, e, b, h⟩ := offerBatch_frame n c s
  rw [h]

@[simp] theorem leaveList_link (c : Context) (s : State) : (leaveList c s).link = s.link := by
  obtain ⟨g, h⟩ := leaveList_frame c s
  rw [h]

@[simp] theorem passSettle_link (n : Head) (s : State) : (passSettle n s).link = s.link := by
  obtain ⟨o, e, oc, j, h⟩ := passSettle_frame n s
  rw [h]

@[simp] theorem enterHeld_link (n : Head) (c : Context) (r : HoldReason) (s : State) : (enterHeld n c r s).link = s.link := by
  obtain ⟨oc, j, h⟩ := enterHeld_frame n c r s
  rw [h]

@[simp] theorem setCause_link (n : Head) (f : FaultCause) (s : State) : (setCause n f s).link = s.link := by
  obtain ⟨o, e, oc, j, p, h⟩ := setCause_frame n f s
  rw [h]

@[simp] theorem releaseHeld_link (n : Head) (c : Context) (s : State) : (releaseHeld n c s).link = s.link := by
  obtain ⟨o, e, oc, j, h⟩ := releaseHeld_frame n c s
  rw [h]

@[simp] theorem freeActive_link (n : Head) (c : Context) (s : State) : (freeActive n c s).link = s.link := by
  obtain ⟨oc, j, t, k, h⟩ := freeActive_frame n c s
  rw [h]

@[simp] theorem freeStored_link (k : StoreSlotId) (c : Context) (s : State) : (freeStored k c s).link = s.link := by
  obtain ⟨oc, t, u, h⟩ := freeStored_frame k c s
  rw [h]

@[simp] theorem complete_link (n : Head) (c : Context) (r : CompletionReason) (s : State) : (complete n c r s).link = s.link := by
  obtain ⟨o, e, oc, j, t, k, h⟩ := complete_frame n c r s
  rw [h]

@[simp] theorem drain_link (s : State) : (drain s).link = s.link := by
  obtain ⟨o, e, oc, j, h⟩ := drain_frame s
  rw [h]

@[simp] theorem evalTide_link (s : State) : (evalTide s).link = s.link := by
  obtain ⟨o, e, p, h⟩ := evalTide_frame s
  rw [h]

@[simp] theorem retireEnded_link (s : State) (k : PageSlotId) : (retireEnded s k).link = s.link := by
  unfold retireEnded
  split
  · rfl
  · simp [retirePage]

@[simp] theorem pageStep_link (s : State) : (pageStep s).link = s.link := by simp [pageStep, pageSlots]

@[simp] theorem applyStep_link (d : Int) (s : State) : (applyStep d s).link = s.link := rfl

@[simp] theorem endDump_link (b : Bool) (s : State) : (endDump b s).link = s.link := by
  unfold endDump
  split
  · rfl
  · simp [setDump]

@[simp] theorem endIfCovered_link (s : State) : (endIfCovered s).link = s.link := by
  unfold endIfCovered
  split
  · rfl
  · split <;> simp

@[simp] theorem silenceExpires_link (n : Head) (s : State) : (silenceExpires n s).link = s.link := by
  unfold silenceExpires
  dsimp only
  split <;> simp

@[simp] theorem enterMode_link (i : Fin 4) (s : State) : (enterMode i s).link = s.link := by
  unfold enterMode
  dsimp only
  split
  · split <;> simp [setRearm]
  · rfl

@[simp] theorem applyEntry_link (s : State) (e : EvtEntry) : (applyEntry s e).link = s.link := by
  unfold applyEntry
  split
  · rfl
  · dsimp only
    split
    · rfl
    · split
      · rfl
      · simp

theorem applyEntries_link (l : List EvtEntry) (s : State) : (l.foldl applyEntry s).link = s.link := by
  induction l generalizing s with
  | nil => rfl
  | cons e l ih => rw [List.foldl_cons, ih, applyEntry_link]

@[simp] theorem rebatch_link (d : Int) (s : State) (n : Head) : (rebatch d s n).link = s.link := by
  unfold rebatch
  dsimp only
  split
  · rfl
  · split
    · simp
    · split <;> simp

@[simp] theorem storeHead_link (n : Head) (p : HeadSetupParams) (s : State) : (storeHead n p s).link = s.link := by
  unfold storeHead
  dsimp only
  split <;> rfl

@[simp] theorem putMarks_link (high low : Nat) (s : State) : (putMarks high low s).link = s.link := by
  unfold putMarks
  dsimp only
  split
  · simp
  · split <;> rfl

@[simp] theorem staleByCommit_link (n : Head) (v : Nat) (s : State) : (staleByCommit n v s).link = s.link := by
  unfold staleByCommit
  split
  · rfl
  · split <;> simp

@[simp] theorem park_link (n : Head) (k : StoreSlotId) (c : Context) (s : State) : (park n k c s).link = s.link := by simp [park]

@[simp] theorem activate_link (c : Context) (s : State) : (activate c s).link = s.link := rfl

@[simp] theorem afterResume_link (c : Context) (v : Nat) (s : State) : (afterResume c v s).link = s.link := by
  unfold afterResume
  split <;> simp

/-! ## The actions keep the link -/

section
variable (h : Header) (s : State)

theorem actHeadSetup_link (p : HeadSetupParams) : (actHeadSetup h p s).link = s.link := by
  unfold actHeadSetup
  split <;> simp

theorem actSetPlan_link (p : Nat) : (actSetPlan h p s).link = s.link := by
  unfold actSetPlan
  split <;> simp [putPlan]

theorem actFaultClear_link (p : FaultClearParams) : (actFaultClear h p s).link = s.link := by
  unfold actFaultClear
  split <;> simp

theorem actEvtSetup_link (l : List EvtEntry) : (actEvtSetup h l s).link = s.link := by
  simp [actEvtSetup, applyEntries_link]

theorem actGroupSet_link (p : GroupSetParams) : (actGroupSet h p s).link = s.link := by
  simp only [actGroupSet, done_link]
  unfold storeGroup
  split <;> rfl

theorem actQueueMarks_link (p : Option (Nat × Nat)) : (actQueueMarks h p s).link = s.link := by
  simp only [actQueueMarks, done_link]
  unfold storeMarks
  split <;> simp

theorem actStreamSelect_link (p : StreamSelectParams) : (actStreamSelect h p s).link = s.link := by
  unfold actStreamSelect
  split <;> simp

theorem actStreamBatch_link (p : Option (Nat × Nat)) : (actStreamBatch h p s).link = s.link := by
  have hstore : (storeBatching p s).link = s.link := by
    unfold storeBatching
    split <;> rfl
  unfold actStreamBatch
  dsimp only
  split <;> simp [heads, hstore]

theorem actCalStage_link (p : CalStageParams) : (actCalStage h p s).link = s.link := by
  unfold actCalStage
  split <;> simp

theorem actCalCommit_link (n : Nat) : (actCalCommit h n s).link = s.link := by
  unfold actCalCommit
  split
  · rfl
  · split <;> simp

theorem actCalDiscard_link (n : Nat) : (actCalDiscard h n s).link = s.link := by
  unfold actCalDiscard
  split <;> simp

theorem actCalRead_link (p : CalReadParams) : (actCalRead h p s).link = s.link := by
  unfold actCalRead
  split <;> simp

theorem actSetTime_link (t : Nat) : (actSetTime h t s).link = s.link := by simp [actSetTime]

theorem actPageOpen_link (p : PageOpenParams) : (actPageOpen h p s).link = s.link := by
  unfold actPageOpen
  split <;> simp

theorem actPageAdd_link (p : PageAddParams) : (actPageAdd h p s).link = s.link := by
  unfold actPageAdd
  split <;> simp

theorem actPageCommit_link (n : Nat) : (actPageCommit h n s).link = s.link := by
  unfold actPageCommit
  split <;> simp

theorem actPageDrop_link (n : Nat) : (actPageDrop h n s).link = s.link := by
  unfold actPageDrop
  split
  · rfl
  · dsimp only
    split <;> simp

theorem actTideQuery_link (p : TideQueryParams) : (actTideQuery h p s).link = s.link := by
  unfold actTideQuery
  split <;> simp

theorem actStnGet_link (n : Nat) : (actStnGet h n s).link = s.link := by
  unfold actStnGet
  split <;> simp

theorem actOccOpen_link (p : OccOpenParams) : (actOccOpen h p s).link = s.link := by
  unfold actOccOpen
  split <;> simp [setTable]

theorem actOccHold_link (tag : Nat) : (actOccHold h tag s).link = s.link := by
  unfold actOccHold
  split <;> simp

theorem actOccRelease_link (tag : Nat) : (actOccRelease h tag s).link = s.link := by
  unfold actOccRelease
  split <;> simp

theorem actOccClose_link (tag : Nat) : (actOccClose h tag s).link = s.link := by
  unfold actOccClose
  split <;> simp

theorem actOccAbort_link (tag : Nat) : (actOccAbort h tag s).link = s.link := by
  have hfree (x : Place × Context) : (freeAt x s).link = s.link := by
    unfold freeAt
    split <;> simp
  unfold actOccAbort
  split <;> simp [hfree]

theorem actOccPark_link (tag : Nat) : (actOccPark h tag s).link = s.link := by
  unfold actOccPark
  split <;> simp

theorem actOccUnpark_link (tag : Nat) : (actOccUnpark h tag s).link = s.link := by
  unfold actOccUnpark
  split <;> simp

theorem actOccSwap_link (p : OccSwapParams) : (actOccSwap h p s).link = s.link := by
  unfold actOccSwap
  split <;> simp

theorem actOccClone_link (p : OccCloneParams) : (actOccClone h p s).link = s.link := by
  unfold actOccClone
  split <;> simp [setTable]

theorem actDumpStart_link (p : DumpStartParams) : (actDumpStart h p s).link = s.link := by
  unfold actDumpStart
  split <;> simp [setDump]

theorem actDumpStop_link : (actDumpStop h () s).link = s.link := by simp [actDumpStop]

end

/-! ## A taken frame -/

/-- The receiver and the intake of the survey link are as they were. -/
def SameIntake (s t : State) : Prop := t.link.rx = s.link.rx ∧ t.link.intake = s.link.intake

theorem SameIntake.of_link {s t : State} (h : t.link = s.link) : SameIntake s t := by simp [SameIntake, h]

theorem actStatus_intake (h : Header) (clear : Bool) (s : State) : SameIntake s (actStatus h clear s) := by
  unfold actStatus
  dsimp only
  split
  · simp [SameIntake, clearCounts]
  · exact .of_link (done_link ..)

theorem command_intake {α : Type} {k : Kind} {h : Header} {b : Body α} {ground : α → State → Option Status}
    {act : α → State → State} {s : State} (ha : ∀ a, SameIntake s (act a s)) : SameIntake s (command k h b ground act s) := by
  unfold command
  split
  · exact .of_link (reply_link ..)
  · split
    · exact .of_link (reply_link ..)
    · split
      · exact .of_link (reply_link ..)
      · split
        · exact .of_link (reply_link ..)
        · exact ha _

theorem command_link {α : Type} {k : Kind} {h : Header} {b : Body α} {ground : α → State → Option Status}
    {act : α → State → State} {s : State} (ha : ∀ a, (act a s).link = s.link) : SameIntake s (command k h b ground act s) :=
  command_intake fun a => .of_link (ha a)

theorem handleFrame_intake (c : Instr) (s : State) : SameIntake s (handleFrame c s) := by
  cases c with
  | unknownKindCommand => exact .of_link (reply_link ..)
  | status h b => exact command_intake fun a => actStatus_intake h a s
  | senderSet => exact command_link fun _ => done_link ..
  | save => exact command_link fun _ => reply_link ..
  | restart h => exact command_link fun _ => done_link h .restart .none s
  | headSetup h => exact command_link (actHeadSetup_link h s)
  | setPlan h => exact command_link (actSetPlan_link h s)
  | arbSet => exact command_link fun _ => done_link ..
  | faultClear h => exact command_link (actFaultClear_link h s)
  | evtSetup h => exact command_link (actEvtSetup_link h s)
  | evtClear => exact command_link fun _ => done_link ..
  | groupSet h => exact command_link (actGroupSet_link h s)
  | queueMarks h => exact command_link (actQueueMarks_link h s)
  | streamSelect h => exact command_link (actStreamSelect_link h s)
  | streamBatch h => exact command_link (actStreamBatch_link h s)
  | calStage h => exact command_link (actCalStage_link h s)
  | calCommit h => exact command_link (actCalCommit_link h s)
  | calDiscard h => exact command_link (actCalDiscard_link h s)
  | calRead h => exact command_link (actCalRead_link h s)
  | setTime h => exact command_link (actSetTime_link h s)
  | pageOpen h => exact command_link (actPageOpen_link h s)
  | pageAdd h => exact command_link (actPageAdd_link h s)
  | pageCommit h => exact command_link (actPageCommit_link h s)
  | pageDrop h => exact command_link (actPageDrop_link h s)
  | pageList => exact command_link fun _ => done_link ..
  | tideQuery h => exact command_link (actTideQuery_link h s)
  | stnPut => exact command_link fun _ => done_link ..
  | stnDelete => exact command_link fun _ => done_link ..
  | stnAge => exact command_link fun _ => done_link ..
  | stnGet h => exact command_link (actStnGet_link h s)
  | stnList => exact command_link fun _ => done_link ..
  | occOpen h => exact command_link (actOccOpen_link h s)
  | occHold h => exact command_link (actOccHold_link h s)
  | occRelease h => exact command_link (actOccRelease_link h s)
  | occClose h => exact command_link (actOccClose_link h s)
  | occAbort h => exact command_link (actOccAbort_link h s)
  | occDefaults => exact command_link fun _ => done_link ..
  | occQuery => exact command_link fun _ => done_link ..
  | occPark h => exact command_link (actOccPark_link h s)
  | occUnpark h => exact command_link (actOccUnpark_link h s)
  | occSwap h => exact command_link (actOccSwap_link h s)
  | occClone h => exact command_link (actOccClone_link h s)
  | dumpStart h => exact command_link (actDumpStart_link h s)
  | dumpStop h => exact command_link fun _ => actDumpStop_link h s
  | _ => exact .of_link rfl

theorem takeFrame_rx (s : State) : (takeFrame s).link.rx = s.link.rx := by
  unfold takeFrame
  split
  · rfl
  · split
    · rw [drain_link, (handleFrame_intake ..).1]
      rfl
    · rfl

theorem takeFrames_rx (s : State) : (takeFrames s).link.rx = s.link.rx := by simp only [takeFrames, takeFrame_rx]

theorem receive_rx (c : Instr) (s : State) : (receive c s).link.rx = s.link.rx := by
  have hoffer (t : State) : (offerIntake c t).link.rx = t.link.rx := by
    unfold offerIntake
    split <;> rfl
  unfold receive
  rw [takeFrames_rx, hoffer, takeFrames_rx]

end Sys2Proof.Machine
end

section
/-! PROOFS. The link controller: grounds, permissions, frames that wait, and the survey link's receiver (O33, O34). -/

namespace Sys2Proof.Machine

-- One theorem at a time: side by side, the proofs ask for more threads than the check's memory limit has stacks for.
set_option Elab.async false

/-! ## The grounds of R171 -/

/-- Every command row goes through the command path with a body of its own kind. -/
theorem command_row {i : Instr} {k : Kind} {h : Header} {m : Bool} (hk : i.kind = some k) (hf : commandForm i = some (h, m)) :
    ∃ (α : Type) (b : Body α) (ground : α → State → Option Status) (act : α → State → State),
      (∀ s, handleFrame i s = command k h b ground act s) ∧ Body.malformedForm b = m := by
  cases i with
  | headFrame | silenceExpiry | correctionComplete | flushExpiry | settleExpiry | gatheringExpiry | limitExpiry | readingJoin
  | timeMark | lossExpiry | pageRetirement | spanStart | eventLineChange | eventDispatch | surveyFrame | linkReady
  | transmissionComplete | dumpBlock | coldStart | loadComplete | saveComplete | unknownKindCommand =>
    exact absurd hk (Option.some_ne_none k).symm
  | status h' b =>
    obtain rfl := Option.some.inj hk
    obtain ⟨rfl, rfl⟩ := Prod.mk.inj (Option.some.inj hf)
    exact ⟨_, b, fun _ _ => none, actStatus h', fun _ => rfl, rfl⟩
  | evtClear h' b =>
    obtain rfl := Option.some.inj hk
    obtain ⟨rfl, rfl⟩ := Prod.mk.inj (Option.some.inj hf)
    exact ⟨_, b, fun _ _ => none, actEvtClear h', fun _ => rfl, rfl⟩
  | stnAge h' b =>
    obtain rfl := Option.some.inj hk
    obtain ⟨rfl, rfl⟩ := Prod.mk.inj (Option.some.inj hf)
    exact ⟨_, b, fun _ _ => none, actStnAge h', fun _ => rfl, rfl⟩
  | _ =>
    obtain rfl := Option.some.inj hk
    obtain ⟨rfl, rfl⟩ := Prod.mk.inj (Option.some.inj hf)
    exact ⟨_, _, _, _, fun _ => rfl, rfl⟩

theorem isFrame_of_kind {i : Instr} {k : Kind} (h : i.kind = some k) : i.isFrame = true := by simp [Instr.isFrame, h]

section
variable {α : Type} {k : Kind} {h : Header} {b : Body α} {ground : α → State → Option Status} {act : α → State → State} {s : State}

theorem command_notReady (hp : s.sys.part = .starting) (hk : k ≠ .status) :
    command k h b ground act s = reply h k.code .notReady .none s := if_pos ⟨hp, hk⟩

theorem command_denied (hp : s.sys.part = .ready ∨ k = .status) (hn : permitted s.settings h.sender k = false) :
    command k h b ground act s = reply h k.code .denied .none s := by
  have hready : ¬ (s.sys.part = .starting ∧ k ≠ .status) := by
    rintro ⟨hs, hk⟩
    obtain hp | hp := hp
    · simp [hs] at hp
    · exact hk hp
  unfold command
  rw [if_neg hready, if_pos hn]

theorem command_passes (hp : s.sys.part = .ready ∨ k = .status) (hn : permitted s.settings h.sender k = true) :
    command k h b ground act s = match b with
      | .malformed => reply h k.code .badValue .none s
      | .ok a => match ground a s with
        | some st => reply h k.code st .none s
        | none => act a s := by
  have hready : ¬ (s.sys.part = .starting ∧ k ≠ .status) := by
    rintro ⟨hs, hk⟩
    obtain hp | hp := hp
    · simp [hs] at hp
    · exact hk hp
  unfold command
  rw [if_neg hready, if_neg (by simp [hn])] <;> rfl

end

/-- A frame whose handling is a reply is answered. -/
theorem exec_answered {c : Instr} {h : Header} {k : Nat} {st : Status} {d : ReplyData} {s : State} (hc : c.isFrame = true)
    (hs : Attentive s) (hf : handleFrame c s = reply h k st d s) : exec c s = .next (told (.reply h k st d) s) :=
  exec_answers hc hs (hf.trans (join_told Nat.one_pos hs.2.2.2 _)) hs

theorem commandsAreRefusedInOrder : Claim.CommandsAreRefusedInOrder := by
  intro i k h m s hk hform hs
  obtain ⟨α, b, ground, act, hf, rfl⟩ := command_row hk hform
  have hc := isFrame_of_kind hk
  refine ⟨fun ⟨hp, hne⟩ => ?notReady, fun hp hn => ?denied, fun hp hn hm => ?malformed⟩
  case notReady => exact exec_answered hc hs ((hf s).trans (command_notReady hp hne))
  case denied => exact exec_answered hc hs ((hf s).trans (command_denied hp hn))
  case malformed =>
    cases b with
    | ok a => exact Bool.noConfusion hm
    | malformed => exact exec_answered hc hs ((hf s).trans (command_passes hp hn))

/-! ## Permissions (R173) -/

theorem permitted_query {k : Kind} (h : k.group = none) (t : Settings) (n : Fin 4) : permitted t n k = true := by
  simp only [permitted, h]

theorem permitted_group {k : Kind} {g : PermGroup} (h : k.group = some g) (t : Settings) (n : Fin 4) :
    permitted t n k = inSet ((senderSets t).getD n.val 0#7) g.bit := by
  simp only [permitted, h]

theorem permissionsFollowTheSets : Claim.PermissionsFollowTheSets := by
  intro t k
  refine ⟨?_, fun hq n => ?_, fun g hg n => ?_⟩
  · cases hg : k.group with
    | none => exact permitted_query hg t 0
    | some g =>
      rw [permitted_group hg]
      change inSet 0x7F#7 g.bit = true
      cases g <;> rfl
  · refine permitted_query ?_ t n
    revert hq
    revert k
    decide
  · rw [permitted_group hg]
    have hset : (senderSets t).getD n.succ.val 0#7 = t.senders[n] := by
      match n with
      | 0 => rfl
      | 1 => rfl
      | 2 => rfl
    rw [hset]
    rfl

/-- Settles O33: the command path tests grounds 1 to 4 in order, and who may send what is read off the sets. -/
theorem commandsAreAnsweredByTheGroundsInOrder : Obligations.CommandsAreAnsweredByTheGroundsInOrder :=
  ⟨fun _ _ _ hs => exec_answered rfl hs rfl, commandsAreRefusedInOrder, permissionsFollowTheSets⟩

/-! ## Frames that are taken, or wait (R169, R170) -/

theorem takeFrame_empty {s : State} (h : s.link.intake = []) : takeFrame s = s := by simp only [takeFrame, h]

theorem takeFrames_empty {s : State} (h : s.link.intake = []) : takeFrames s = s := by simp only [takeFrames, takeFrame_empty h]

theorem takeFrame_refused {s : State} (h : canTake s = false) : takeFrame s = s := by
  unfold takeFrame
  split
  · rfl
  · rw [if_neg (by simp [h])]

theorem takeFrames_refused {s : State} (h : canTake s = false) : takeFrames s = s := by simp only [takeFrames, takeFrame_refused h]

theorem canTake_eq_false {s : State} : canTake s = false ↔ 48 ≤ s.out.queue.length ∨ s.sys.restartPending = true := by
  change (decide (s.out.queue.length < 48) && !s.sys.restartPending) = false ↔ _
  rw [Bool.and_eq_false_iff, decide_eq_false_iff_not, Nat.not_lt, Bool.not_eq_false']

theorem canTake_eq_true {s : State} : canTake s = true ↔ s.out.queue.length < 48 ∧ s.sys.restartPending = false := by
  change (decide (s.out.queue.length < 48) && !s.sys.restartPending) = true ↔ _
  rw [Bool.and_eq_true, decide_eq_true_eq, Bool.not_eq_true']

/-- With an entry free and nothing in the intake a frame is handled as it arrives. -/
theorem receive_open {s : State} (c : Instr) (hi : s.link.intake = []) (ht : canTake s = true) :
    receive c s = drain (handleFrame c s) := by
  have hset : setIntake [] (setIntake [c] s) = s := by
    have : { s.link with intake := [] } = s.link := by rw [← hi]
    change { s with link := { s.link with intake := [] } } = s
    rw [this]
  have hoffer : offerIntake c s = setIntake [c] s := by simp [offerIntake, hi, Config.intakeSize, setIntake]
  have htake : takeFrame (setIntake [c] s) = drain (handleFrame c s) := by
    have hcan : canTake (setIntake [c] s) = true := ht
    simp only [takeFrame, setIntake_link, hcan, if_true, hset]
  have hempty : (drain (handleFrame c s)).link.intake = [] := by rw [drain_link, (handleFrame_intake c s).2, hi]
  unfold receive
  rw [takeFrames_empty hi, hoffer]
  simp only [takeFrames, htake, takeFrame_empty hempty]

/-- A frame that finds the controller with an entry free, nothing waiting and the event unit quiet. -/
theorem exec_open {c : Instr} {s : State} (hc : c.isFrame = true) (hi : s.link.intake = []) (ht : canTake s = true) (hq : Quiet s) :
    exec c s = .next (drain (handleFrame c s)) := by
  rw [exec_frame hc, drain_quiet hq, receive_open c hi ht]

theorem exec_waits {i : Instr} {s : State} (hc : i.isFrame = true) (hq : Quiet s) (ht : canTake s = false) :
    exec i s = .next (offerIntake i s) := by
  have hafter : canTake (offerIntake i s) = false := by
    unfold offerIntake
    split <;> exact ht
  rw [exec_frame hc, drain_quiet hq, receive, takeFrames_refused ht, takeFrames_refused hafter]

theorem frameThatCannotBeTakenWaits : Claim.FrameThatCannotBeTakenWaits := by
  intro i s hc hq hfull
  have ht : canTake s = false := canTake_eq_false.mpr hfull
  rw [exec_waits hc hq ht]
  refine ⟨fun hlen => ?_, fun hlen => ?_⟩
  · rw [offerIntake, if_pos (by exact hlen)]
  · rw [offerIntake, if_neg (by exact Nat.not_lt.mpr hlen)]
    rfl

/-! ## The receiver (R168) -/

theorem decodeSurveyFrame_isFrame {bs : List Byte} {c : Instr} (h : decodeSurveyFrame bs = some c) : c.isFrame = true := by
  have hkind (k : Kind) (h : Header) (body : List Byte) : (decodeKind k h body).isFrame = true := by cases k <;> rfl
  unfold decodeSurveyFrame at h
  dsimp only at h
  split at h
  · split at h
    · rw [← Option.some.inj h]
      unfold decodeFrame
      split
      · exact hkind ..
      · rfl
    · simp at h
  · simp at h

theorem huntSurvey_empty (k : Nat) {s : State} (h : s.link.rx.buf = []) : huntSurvey k s = s := by
  cases k with
  | zero => rfl
  | succ k => simp only [huntSurvey, h]

/-- Bytes in which no frame begins are discarded: none of them is a frame's, or a run of them has been counted already. -/
theorem huntSurvey_no_marker {l : List Byte} (hl : 0xA5#8 ∉ l) {k : Nat} (hk : l.length ≤ k) {n : Nat} (hn : l.length ≤ n) {s : State}
    (h : s.link.rx = { buf := l, rescan := n, junk := false }) :
    huntSurvey k s = setLinkReceiver { buf := [], rescan := n - l.length, junk := false } s := by
  induction l generalizing k n s with
  | nil =>
    rw [huntSurvey_empty k (by rw [h])]
    change s = { s with link := { s.link with rx := { buf := [], rescan := n, junk := false } } }
    rw [← h]
  | cons b l ih =>
    obtain ⟨k, rfl⟩ : ∃ j, k = j + 1 := ⟨k - 1, by simp at hk; omega⟩
    obtain ⟨hb, hl⟩ := List.ne_and_not_mem_of_not_mem_cons hl
    simp only [List.length_cons] at hk hn
    have hstep : huntSurvey (k + 1) s = huntSurvey k (setLinkReceiver { buf := l, rescan := n - 1, junk := false } s) := by
      have hzero : (n == 0) = false := by simp; omega
      simp only [huntSurvey, h, Ne.symm hb, ne_eq, not_false_eq_true, if_true, hzero, Bool.or_false]
    rw [hstep, ih hl (by omega) (by omega) rfl]
    simp only [setLinkReceiver, List.length_cons, Nat.sub_sub, Nat.add_comm 1]

/-- A receiver that holds no byte meets the bytes of one frame. -/
theorem surveyBytes_frame {bytes rest : List Byte} {s : State} (hrx : s.link.rx = { buf := [], rescan := 0, junk := false })
    (hb : bytes = 0xA5#8 :: rest) (hl : surveyFrameLength bytes = some bytes.length) :
    surveyBytes bytes s = match decodeSurveyFrame bytes with
      | some c => huntSurvey bytes.length (receive c s)
      | none => huntSurvey bytes.length (dropFrame (setLinkReceiver { buf := rest, rescan := bytes.length - 1, junk := false } s)) := by
  have hback : setLinkReceiver { buf := [], rescan := 0, junk := false } s = s := by
    change { s with link := { s.link with rx := { buf := [], rescan := 0, junk := false } } } = s
    rw [← hrx]
  have hset (r r' : Receiver) : setLinkReceiver r (setLinkReceiver r' s) = setLinkReceiver r s := rfl
  have hstart : surveyBytes bytes s =
      huntSurvey (bytes.length + 1) (setLinkReceiver { buf := bytes, rescan := 0, junk := false } s) := by
    simp only [surveyBytes, hrx, List.nil_append]
  have hhunt (t : State) (ht : t = setLinkReceiver { buf := bytes, rescan := 0, junk := false } s) :
      huntSurvey (bytes.length + 1) t = match decodeSurveyFrame bytes with
        | some c => huntSurvey bytes.length (receive c (setLinkReceiver { buf := [], rescan := 0, junk := false } t))
        | none => huntSurvey bytes.length (dropFrame (setLinkReceiver { buf := rest, rescan := bytes.length - 1, junk := false } t)) := by
    have hrxt : t.link.rx = { buf := 0xA5#8 :: rest, rescan := 0, junk := false } := by rw [ht, hb]; rfl
    rw [hb] at hl ⊢
    conv_lhs => unfold huntSurvey
    simp only [hrxt, ne_eq, not_true_eq_false, if_false, hl, Nat.lt_irrefl, Bool.false_eq_true, List.take_length, List.drop_length,
      Nat.zero_sub, Nat.max_eq_right (Nat.zero_le _)] <;>
      cases decodeSurveyFrame (165#8 :: rest) <;> rfl
  rw [hstart, hhunt _ rfl]
  cases decodeSurveyFrame bytes with
  | some c => simp only [hset, hback]
  | none => simp only [hset]

theorem surveyFrameIsTakenOrDropped : Claim.SurveyFrameIsTakenOrDropped := by
  intro bytes s hrx hhead hl
  obtain ⟨rest, hb⟩ : ∃ rest, bytes = 0xA5#8 :: rest := by
    cases bytes with
    | nil => simp at hhead
    | cons b rest => exact ⟨rest, by simpa using hhead⟩
  have hrxd : (drain s).link.rx = { buf := [], rescan := 0, junk := false } := by rw [drain_link, hrx]
  refine ⟨fun c hc => ?_, fun hnone hmark hq => ?_⟩
  · have hbuf : (receive c (drain s)).link.rx.buf = [] := by rw [receive_rx, hrxd]
    rw [exec_frame (decodeSurveyFrame_isFrame hc)]
    simp only [exec, execSurveyFrame, surveyBytes_frame hrxd hb hl, hc, huntSurvey_empty _ hbuf]
  · have hrest : bytes.length = rest.length + 1 := by rw [hb]; rfl
    have hmark : 0xA5#8 ∉ rest := by rw [hb] at hmark; exact hmark
    have hhunt := huntSurvey_no_marker (s := dropFrame (setLinkReceiver { buf := rest, rescan := bytes.length - 1, junk := false } s))
      hmark (k := bytes.length) (by omega) (n := bytes.length - 1) (by omega) rfl
    have hlast : bytes.length - 1 - rest.length = 0 := by omega
    rw [hlast] at hhunt
    simp only [exec, execSurveyFrame, drain_quiet hq, surveyBytes_frame hrx hb hl, hnone, hhunt]
    simp only [setLinkReceiver, dropFrame, satAdd, Config.countMax]
    rw [← hrx]

/-- Settles O34: a frame joins the intake, is taken at once, or is counted. -/
theorem framesAreTakenQueuedOrDropped : Obligations.FramesAreTakenQueuedOrDropped :=
  ⟨frameThatCannotBeTakenWaits, surveyFrameIsTakenOrDropped⟩

end Sys2Proof.Machine
end

section
/-! PROOFS. Transmissions and the entry that one frees (R141, R143, R170): O32. -/

namespace Sys2Proof.Machine

-- One theorem at a time: side by side, the proofs ask for more threads than the check's memory limit has stacks for.
set_option Elab.async false

/-! ## LINK_READY -/

theorem linkReadyBeginsATransmission : Claim.LinkReadyBeginsATransmission := by
  intro level s
  simp only [exec, execLinkReady, putLinkReady, beginTransmission]
  cases s.out.queue with
  | nil => rfl
  | cons m rest => cases level <;> cases s.out.transmitting <;> rfl

/-! ## The end of a transmission -/

/-- The state once the oldest message has left, `rest` being behind it, and the next transmission may have begun (R141, R144). -/
def freed (rest : List Message) (s : State) : State :=
  { s with
    out := { s.out with
      queue := rest
      congested := s.out.congested && decide (s.settings.low < rest.length)
      transmitting := s.pins.linkReady && !rest.isEmpty
      lineOut := match rest with
        | [] => s.out.lineOut
        | next :: _ => if s.pins.linkReady then messageFrames next else s.out.lineOut } }

theorem begin_freeEntry {s : State} {m : Message} {rest : List Message} (h : s.out.queue = m :: rest) :
    { s with out := beginTransmission s.pins.linkReady (freeEntry s.settings.low s.out) } = freed rest s := by
  have hfree : freeEntry s.settings.low s.out = { s.out with
      queue := rest, transmitting := false, congested := s.out.congested && decide (s.settings.low < rest.length) } := by
    simp [freeEntry, h]
  rw [hfree]
  unfold freed
  cases rest with
  | nil => cases s.pins.linkReady <;> rfl
  | cons next l => cases s.pins.linkReady <;> rfl

theorem joinReading_none {s : State} (h : s.occ.waiting = []) : joinReading s = s := by simp only [joinReading, h]

theorem offerReadings_idle {s : State} (h : s.occ.waiting = [] ∨ hasEntry s = false) : offerReadings s = s := by
  obtain h | h := h
  · simp only [offerReadings, joinReading_none h]
  · exact offerReadings_refused h

theorem endTransmission_next {s : State} {m : Message} {rest : List Message} (hq : s.out.queue = m :: rest)
    (hr : s.sys.restartPending = false ∨ rest ≠ []) : endTransmission s = freed rest s := by
  have hqueue : (freeEntry s.settings.low s.out).queue = rest := by simp [freeEntry, hq]
  have hnot : (s.sys.restartPending && (freeEntry s.settings.low s.out).queue.isEmpty) = false := by
    rw [hqueue]
    obtain h | h := hr
    · simp [h]
    · simp [h]
  rw [← begin_freeEntry hq]
  unfold endTransmission
  dsimp only
  rw [hnot]
  rfl

/-- A transmission that ends short of a RESTART's end, with the event unit quiet and no reading for an entry already free. -/
theorem exec_transmissionComplete {s : State} {m : Message} {rest : List Message} (ht : s.out.transmitting = true)
    (hq : s.out.queue = m :: rest) (hquiet : Quiet s) (hw : s.occ.waiting = [] ∨ hasEntry s = false)
    (hr : s.sys.restartPending = false ∨ rest ≠ []) : exec .transmissionComplete s = .next (claimEntry 4 (freed rest s)) := by
  have hquiet : Quiet (freed rest s) := quiet_congr rfl rfl hquiet
  simp only [exec, execTransmissionComplete, ht, if_true, offerReadings_idle hw, endTransmission_next hq hr, latchNext_quiet hquiet,
    Config.intakeSize]

theorem transmissionCompleteFreesTheOldestEntry : Claim.TransmissionCompleteFreesTheOldestEntry := by
  intro s m rest ht hq hquiet hw hr hi
  have hnone : claimEntry 4 (freed rest s) = freed rest s :=
    claimEntry_none (hi.imp_right (hasEntry_of_restart (s := freed rest s))) 4
  rw [exec_transmissionComplete ht hq hquiet hw hr, hnone]
  rfl

/-! ## The controller's looks (R143, R170) -/

theorem takeFrame_cons {c : Instr} {frames : List Instr} {s : State} (hi : s.link.intake = c :: frames) (hc : canTake s = true) :
    takeFrame s = drain (handleFrame c { s with link := { s.link with intake := frames } }) := by
  simp only [takeFrame, hi, hc, if_true]
  rfl

theorem eq_of_waitingRival {s : State} {i : Instr} (h : waitingRival s = some i) : i = .readingJoin ∨ i = .dumpBlock := by
  simpa using List.mem_of_find?_eq_some h

theorem afterEvent_rival {s t u : State} {i : Instr} (h : waitingRival s = some i) (hu : exec i t = .next u) : afterEvent i t = u := by
  have hmeaning : eventMeaning i t = .next u := by
    obtain rfl | rfl := eq_of_waitingRival h <;> exact hu
  simp only [afterEvent, hmeaning]

theorem freedEntryGoesToOneClaimant : Claim.FreedEntryGoesToOneClaimant := by
  rintro k s t rfl
  refine ⟨fun h => claimEntry_none h k, fun c frames taken hi hc hquiet htaken => ?_⟩
  have hne : s.link.intake ≠ [] := by simp [hi]
  have hfirst : takeFrame (drain s) = taken s := by
    rw [drain_quiet hquiet, takeFrame_cons hi hc, htaken]
  have hlater : takeFrame (drain { s with choices := s.choices + 1 }) = taken { s with choices := s.choices + 1 } := by
    rw [drain_quiet (by exact quiet_congr rfl rfl hquiet), takeFrame_cons (s := { s with choices := s.choices + 1 }) hi hc, htaken]
  refine ⟨fun he hw => ?_, fun he => ?_, fun i u he hw hu => ?_⟩
  · rw [claimEntry_alone hne hc he hw, hfirst]
  · rw [claimEntry_event hne hc he, hlater]
  · rw [claimEntry_rival hne hc he hw, hlater, afterEvent_rival hw hu]

theorem frameIsTakenAtTheFreedEntry : Claim.FrameIsTakenAtTheFreedEntry := by
  intro s t m rest ht hq hlen hquiet hw hr hi heq
  have heq : t = freed rest s := heq
  have hentry : hasEntry t = true := by
    rw [heq]
    exact canTake_eq_true.mpr ⟨hlen, hr⟩
  have hexec := exec_transmissionComplete ht hq hquiet hw (.inl hr)
  rw [← heq] at hexec
  refine ⟨hentry, hexec, fun c hic hc he => ?_⟩
  have hit : t.link.intake = [c] := by rw [heq]; exact hic
  have hquiett : Quiet t := heq ▸ quiet_congr rfl rfl hquiet
  have hchoices : t.choices = s.choices := by rw [heq]; rfl
  obtain ⟨-, hclaims⟩ := freedEntryGoesToOneClaimant 3 t { t with choices := t.choices + 1 } rfl
  obtain ⟨halone, -, hrival⟩ := hclaims c [] _ hit hentry hquiett fun _ => rfl
  have htaken (x : State) (hx : hasEntry x = true) (hqx : Quiet x) :
      Host.Outcome.next (claimEntry 3 (drain (handleFrame c { x with link := { x.link with intake := [] } }))) =
        exec c { x with link := { x.link with intake := [] } } := by
    have hempty : (drain (handleFrame c { x with link := { x.link with intake := [] } })).link.intake = [] := by
      rw [drain_link, (handleFrame_intake ..).2]
    rw [claimEntry_no_frame hempty, exec_open hc (by rfl) (by exact hx) (by exact quiet_congr rfl rfl hqx)]
  refine ⟨fun hnone => ?_, fun u hsome hu => ?_⟩
  · rw [hexec, halone he hnone, htaken t hentry hquiett]
  · rw [← hchoices] at hu ⊢
    rw [hexec, hrival .readingJoin u he hsome hu]
    split
    · exact htaken { t with choices := t.choices + 1 } hentry (quiet_congr rfl rfl hquiett)
    · rfl

/-! ## The other claimants (R143) -/

theorem eventMeaning_frame {i : Instr} (h : i.isFrame = true) (s : State) : eventMeaning i s = .next s := by
  cases i with
  | headFrame | silenceExpiry | correctionComplete | flushExpiry | settleExpiry | gatheringExpiry | limitExpiry | readingJoin
  | timeMark | lossExpiry | pageRetirement | spanStart | eventLineChange | eventDispatch | linkReady | dumpBlock | loadComplete
  | saveComplete => exact Bool.noConfusion h
  | _ => rfl

theorem joinsMessage_iff (i : Instr) (s : State) : joinsMessage i s = true ↔ i.isFrame = false ∧ (∀ b, i ≠ .surveyFrame b) ∧
    i ≠ .transmissionComplete ∧ ∃ u, exec i s = .next u ∧ s.out.queue.length < u.out.queue.length := by
  have hsame (h : eventMeaning i s = .next s) : joinsMessage i s = false := by simp [joinsMessage, afterEvent, h]
  constructor
  · intro hj
    have hnot (h : eventMeaning i s = .next s) : False := by simp [hsame h] at hj
    have hframe : i.isFrame = false := Bool.eq_false_iff.mpr fun h => hnot (eventMeaning_frame h s)
    have hsurvey (b : List Byte) : i ≠ .surveyFrame b := by rintro rfl; exact hnot rfl
    have htrans : i ≠ .transmissionComplete := by rintro rfl; exact hnot rfl
    have hcold : i ≠ .coldStart := by rintro rfl; exact hnot rfl
    obtain ⟨u, hu⟩ := exec_next i s
    refine ⟨hframe, hsurvey, htrans, u, hu, ?_⟩
    rw [eventMeaning_exec hframe hsurvey htrans hcold] at hu
    simpa [joinsMessage, afterEvent, hu] using hj
  · rintro ⟨hframe, hsurvey, htrans, u, hu, hlen⟩
    have hcold : i ≠ .coldStart := by
      rintro rfl
      obtain rfl := Host.Outcome.next.inj hu
      exact absurd hlen (Nat.not_lt_zero _)
    rw [eventMeaning_exec hframe hsurvey htrans hcold] at hu
    simp [joinsMessage, afterEvent, hu, hlen]

theorem eventAtHand_iff (s : State) : eventAtHand s = true ↔ ∃ i rest, s.pending = i :: rest ∧ joinsMessage i s = true := by
  unfold eventAtHand
  cases s.pending with
  | nil => simp
  | cons i rest => simp

theorem otherClaimantsWouldBringAMessage : Claim.OtherClaimantsWouldBringAMessage := fun s =>
  ⟨fun i => joinsMessage_iff i s, eventAtHand_iff s, fun hr => by simp [waitingRival, hr],
    fun hr hd => by simp [waitingRival, hr, hd], fun hr hd => by simp [waitingRival, hr, hd]⟩

/-- Settles O32: the oldest message leaves, the next transmission begins, and the freed entry goes to one claimant. -/
theorem transmissionsTakeTheOldestMessage : Obligations.TransmissionsTakeTheOldestMessage :=
  ⟨linkReadyBeginsATransmission, transmissionCompleteFreesTheOldestEntry, frameIsTakenAtTheFreedEntry,
    freedEntryGoesToOneClaimant, otherClaimantsWouldBringAMessage⟩

end Sys2Proof.Machine
end

section
/-! PROOFS. STATUS, and the congestion that a message begins (R144, R175, R176, R187): O15. -/

namespace Sys2Proof.Machine

-- One theorem at a time: side by side, the proofs ask for more threads than the check's memory limit has stacks for.
set_option Elab.async false

theorem handleFrame_status (h : Header) (clear : Bool) (s : State) : handleFrame (.status h (.ok clear)) s = actStatus h clear s :=
  command_passes (ground := fun _ _ => none) (act := actStatus h) (b := .ok clear) (.inr rfl) (permitted_query rfl ..)

/-! ## Congestion (R144) -/

theorem join_begins {m : Message} {s : State} (hl : s.out.queue.length < 48) (hc : s.out.congested = false)
    (hh : s.settings.high ≤ s.out.queue.length + 1) : join m s = raise 7 (told m s) := by
  have hstart : startsCongestion s = true := by simp [startsCongestion, hc, hh]
  unfold join
  rw [if_pos (by exact hl)]
  dsimp only
  rw [if_pos hstart]
  rfl

theorem joinAtTheHighMarkBeginsCongestion : Claim.JoinAtTheHighMarkBeginsCongestion := by
  intro m s hl
  refine ⟨fun hlow => ?_, fun hc hh => ⟨join_begins hl hc hh, ?_⟩⟩
  · refine ⟨join_told Nat.one_pos ⟨hl, hlow⟩ m, ?_⟩
    rw [told_congested]
    obtain hc | hlow := hlow
    · simp [hc]
    · simp [Nat.not_le.mpr hlow]
  · rw [told_congested]
    simp [hh]

/-! ## The report -/

theorem actStatus_eq {h : Header} {clear : Bool} {s : State} (hroom : RoomFor 1 s) : actStatus h clear s =
    if clear then clearCounts (answered h .status .done (.status (statusReport s)) s)
    else answered h .status .done (.status (statusReport s)) s := by
  unfold actStatus
  rw [done_room hroom]

theorem exec_status {h : Header} {clear : Bool} {s : State} (hs : Attentive s) :
    exec (.status h (.ok clear)) s = .next (actStatus h clear s) := by
  have hact := handleFrame_status h clear s
  obtain ⟨hintake, -, hquiet, hroom⟩ := id hs
  have hq : Quiet (actStatus h clear s) := by
    rw [actStatus_eq hroom]
    split <;> exact quiet_congr rfl rfl hquiet
  rw [exec_handles rfl hs ((handleFrame_intake ..).2.trans hintake) (hact ▸ hq), hact]

theorem statusReport_heads (s : State) (n : Head) : (statusReport s).heads[n] = headReport s n := vget_four (headReport s) n

theorem clearCounts_port (s : State) (n : Head) :
    (clearCounts s).ports[n] = { s.ports[n] with linkErrors := 0, overruns := 0, gaps := 0 } := vget_vmap ..

theorem congestedWithReply_of_room {s : State} (h : RoomFor 1 s) : congestedWithReply s = s.out.congested := by
  unfold congestedWithReply countWithReply
  obtain hc | hlow := h.2
  · simp [hc]
  · simp [Nat.not_le.mpr hlow]

theorem statusReportsThePart : Claim.StatusReportsThePart := by
  intro h clear s hs
  have hroom := hs.2.2.2
  refine ⟨statusReport s, actStatus h clear s, exec_status hs, ?_, ?_, rfl, rfl, rfl, rfl, rfl, rfl, congestedWithReply_of_room hroom,
    rfl, rfl, rfl, rfl, rfl, rfl, rfl, fun n => ?_⟩
  · rintro rfl
    exact actStatus_eq hroom
  · rintro rfl
    rw [actStatus_eq hroom, if_pos rfl]
    exact ⟨rfl, fun n => clearCounts_port _ n⟩
  · rw [statusReport_heads]
    exact ⟨rfl, rfl, rfl, rfl, rfl, rfl, rfl, rfl⟩

theorem actStatus_queue {h : Header} {clear : Bool} {s : State} (hroom : RoomFor 1 s) : (actStatus h clear s).out.queue =
    s.out.queue ++ [.reply h Kind.status.code .done (.status (statusReport s))] := by
  rw [actStatus_eq hroom]
  split <;> exact told_queue ..

/-! ## Sequences and the pause of a dump -/

theorem seqOf_empty {g : Ring} (h : g.records = []) (q : Nat) : seqOf g q = none := by simp [seqOf, h]

theorem seqOf_held {g : Ring} (h : g.records ≠ []) (q : Nat) : seqOf g q = some q := by simp [seqOf, h]

theorem anyGathering_iff {o : Occupations} :
    anyGathering o = true ↔ ∃ (n : Head) (c : Context), o.active[n] = some c ∧ gathering c = true := by
  unfold anyGathering
  rw [List.any_eq_true]
  constructor
  · rintro ⟨⟨n, c⟩, hx, hg⟩
    exact ⟨n, c, mem_activeContexts.mp hx, hg⟩
  · rintro ⟨n, c, hc, hg⟩
    exact ⟨(n, c), mem_activeContexts.mpr hc, hg⟩

theorem statusReportsSequencesAndPause : Claim.StatusReportsSequencesAndPause := by
  intro h clear s hs
  have hroom := hs.2.2.2
  refine ⟨statusReport s, actStatus h clear s, exec_status hs, actStatus_queue hroom, fun n => ?_, fun hd => ?_, fun d hd => ?_⟩
  · rw [statusReport_heads]
    exact ⟨fun hempty => ⟨seqOf_empty hempty _, seqOf_empty hempty _⟩, fun hheld => ⟨seqOf_held hheld _, seqOf_held hheld _⟩⟩
  · change pauseOf s = _
    simp only [pauseOf, hd]
  · change (_ → pauseOf s = _) ∧ (_ → (_ → pauseOf s = _) ∧ (_ → (_ → _ → pauseOf s = _) ∧ (_ → pauseOf s = _)))
    simp only [pauseOf, hd, congestedWithReply_of_room hroom]
    refine ⟨fun hlen => ?_, fun hlen => ?_⟩
    · rw [if_pos (by simp [countWithReply, hlen, Config.queueSize])]
    · rw [if_neg (by simp only [countWithReply, Config.queueSize]; omega)]
      refine ⟨fun hc => if_pos hc, fun hc => ?_⟩
      rw [if_neg (by simp [hc])]
      refine ⟨fun hquiet hg => ?_, fun hnot => ?_⟩
      · rw [if_pos (by simp [hquiet, anyGathering_iff.mpr hg])]
      · refine if_neg ?_
        rw [Bool.and_eq_true, anyGathering_iff]
        rintro ⟨hquiet, n, c, hc, hg⟩
        obtain hnot | hnot := hnot
        · simp [hquiet] at hnot
        · simp [hnot n c hc] at hg

/-! ## A STATUS that begins congestion -/

theorem clearCounts_raise (i : Source) (s : State) : clearCounts (raise i s) = raise i (clearCounts s) := by
  unfold raise
  change clearCounts (if _ then _ else s) = if s.sys.part = .ready ∧ s.settings.sources[i].mode ≠ .off then _ else _
  split <;> rfl

theorem statusAtTheHighMarkReportsCongestion : Claim.StatusAtTheHighMarkReportsCongestion := by
  intro h clear s hi hr hq hl hc hh
  have hcong : congestedWithReply s = true := by simp [congestedWithReply, countWithReply, hh]
  have hdone : done h .status (.status (statusReport s)) s = raise 7 (answered h .status .done (.status (statusReport s)) s) :=
    join_begins hl hc hh
  have hafter : (answered h .status .done (.status (statusReport s)) s).out.congested = true :=
    (told_congested ..).trans (by simp [hh])
  refine ⟨statusReport s, if clear then clearCounts (answered h .status .done (.status (statusReport s)) s)
    else answered h .status .done (.status (statusReport s)) s, ?_, ?_, rfl, hcong, fun d hd hlen => ?_, ?_, ?_⟩
  · rw [exec_open rfl hi (canTake_eq_true.mpr ⟨hl, hr⟩) hq, handleFrame_status]
    unfold actStatus
    rw [hdone]
    cases clear
    · rfl
    · dsimp only
      rw [if_pos rfl, if_pos rfl, clearCounts_raise]
  · split <;> exact hafter
  · change pauseOf s = _
    simp only [pauseOf, hd, hcong]
    rw [if_neg (by simp only [countWithReply, Config.queueSize]; omega)]
    rfl
  · rintro rfl
    rfl
  · rintro rfl
    exact ⟨rfl, fun n => clearCounts_port _ n⟩

/-- Settles O15: the reply is the report of the state it finds, its own join counted. -/
theorem statusReportsAndClears : Obligations.StatusReportsAndClears :=
  ⟨statusReportsThePart, statusReportsSequencesAndPause, statusAtTheHighMarkReportsCongestion, joinAtTheHighMarkBeginsCongestion⟩

end Sys2Proof.Machine
end

section
/-! PROOFS. The setting commands of chapters 1, 5, 7, 8 and 10: O16 to O20, O35. -/

namespace Sys2Proof.Machine

-- One theorem at a time: side by side, the proofs ask for more threads than the check's memory limit has stacks for.
set_option Elab.async false

/-! ## ARB_SET (R15) -/

theorem handleFrame_arbSet (h : Header) (b : Body ArbSetParams) (s : State) :
    handleFrame (.arbSet h b) s = command .arbSet h b groundArbSet (actArbSet h) s := rfl

theorem groundArbSet_eq_none {p : ArbSetParams} {s : State} : groundArbSet p s = none ↔ 1 ≤ p.limit ∧ p.limit ≤ 15 := by
  simp [groundArbSet, between]

theorem groundArbSet_bad {p : ArbSetParams} {s : State} (h : p.limit < 1 ∨ 15 < p.limit) : groundArbSet p s = some .badValue := by
  have hnot : ¬ (1 ≤ p.limit ∧ p.limit ≤ 15) := by omega
  simp [groundArbSet, between, hnot]

/-- Settles O16: the one ground is the limit's range, and the action is two fields and the reply. -/
theorem arbSetStoresModeAndLimit : Obligations.ArbSetStoresModeAndLimit := fun h _ s ht =>
  ⟨exec_malformed rfl ht (handleFrame_arbSet h .malformed s),
    fun hbad => exec_refuses rfl ht (handleFrame_arbSet ..) (groundArbSet_bad hbad),
    fun hlo hhi => exec_done rfl ht (handleFrame_arbSet ..) (groundArbSet_eq_none.mpr ⟨hlo, hhi⟩) rfl
      (ht.1.congr rfl rfl rfl rfl rfl rfl rfl)⟩

/-! ## SENDER_SET, FAULT_CLEAR and OCC_DEFAULTS (R174, R18, R75) -/

theorem handleFrame_senderSet (h : Header) (b : Body SenderSetParams) (s : State) :
    handleFrame (.senderSet h b) s = command .senderSet h b groundSenderSet (actSenderSet h) s := rfl

theorem senderIndex_of_sender {m : Nat} {n : Fin 3} (h : m = n.val + 1) : senderIndex m = some n := by
  subst h
  simp [senderIndex]

theorem senderSetReplacesOneSet : Claim.SenderSetReplacesOneSet := by
  intro h p s ht
  refine ⟨fun hout => exec_refuses rfl ht (handleFrame_senderSet ..) ?_, fun n hn l hl => ?_⟩
  · have hnot : ¬ (1 ≤ p.sender ∧ p.sender ≤ 3) := by omega
    simp [groundSenderSet, senderIndex, hnot]
  · have hput : putSender p s.settings = { s.settings with senders := l } := by
      rw [hl]
      unfold putSender
      rw [senderIndex_of_sender hn]
      cases p.groups <;> rfl
    have hact : actSenderSet h p s = done h .senderSet (.senders [0x7F#7, l[0], l[1], l[2]])
        { s with settings := { s.settings with senders := l } } := by
      unfold actSenderSet
      rw [hput]
      rfl
    exact exec_done rfl ht (handleFrame_senderSet ..) (by simp [groundSenderSet, senderIndex_of_sender hn]) hact
      (ht.1.congr rfl rfl rfl rfl rfl rfl rfl)

theorem handleFrame_faultClear (h : Header) (b : Body FaultClearParams) (s : State) :
    handleFrame (.faultClear h b) s = command .faultClear h b groundFaultClear (actFaultClear h) s := rfl

theorem faultClearRemovesCauses : Claim.FaultClearRemovesCauses := by
  intro h p s ht
  refine ⟨fun hout => exec_refuses rfl ht (handleFrame_faultClear ..) (by simp [groundFaultClear, headOf_eq_none hout]),
    fun n hn => ?_⟩
  have hact : actFaultClear h p s = done h .faultClear .none
      (setPort n { s.ports[n] with status := s.ports[n].status &&& ~~~p.causes } s) := by
    simp only [actFaultClear, hn, headOf_val]
  exact exec_done rfl ht (handleFrame_faultClear ..) (by simp [groundFaultClear, hn]) hact (ht.1.congr rfl rfl rfl rfl rfl rfl rfl)

theorem handleFrame_occDefaults (h : Header) (b : Body Policy) (s : State) :
    handleFrame (.occDefaults h b) s = command .occDefaults h b groundOccDefaults (actOccDefaults h) s := rfl

theorem policyOk_iff (p : Policy) : policyOk p = true ↔
    (10 ≤ p.target ∧ p.target ≤ 3600) ∧ (3 ≤ p.minimum ∧ p.minimum ≤ p.target) ∧ p.settle ≤ 600 ∧
      (p.runLimit = 0 ∨ 60 ≤ p.runLimit ∧ p.runLimit ≤ 14400) ∧ (10 ≤ p.tiltLimit ∧ p.tiltLimit ≤ 6000) ∧
      (1 ≤ p.rateLimit ∧ p.rateLimit ≤ 1000) ∧ (p.gate = 0 ∨ 10 ≤ p.gate ∧ p.gate ≤ 50000) := by
  simp [policyOk, targetOk, settleOk, runLimitOk, tiltLimitOk, rateLimitOk, gateOk, between, within, and_assoc]

theorem occDefaultsReplacesThePolicy : Claim.OccDefaultsReplacesThePolicy := fun h p s ht =>
  ⟨policyOk_iff p, fun hbad => exec_refuses rfl ht (handleFrame_occDefaults ..) (by simp [groundOccDefaults, hbad]),
    fun hok => exec_done rfl ht (handleFrame_occDefaults ..) (by simp [groundOccDefaults, hok]) rfl
      (ht.1.congr rfl rfl rfl rfl rfl rfl rfl)⟩

/-- Settles O35: each of the three tests its operands and replaces the one field it names. -/
theorem settingCommandsReplaceWhatTheyName : Obligations.SettingCommandsReplaceWhatTheyName :=
  ⟨senderSetReplacesOneSet, faultClearRemovesCauses, occDefaultsReplacesThePolicy⟩

/-! ## HEAD_SETUP (R4) -/

theorem handleFrame_headSetup (h : Header) (b : Body HeadSetupParams) (s : State) :
    handleFrame (.headSetup h b) s = command .headSetup h b groundHeadSetup (actHeadSetup h) s := rfl

theorem headSettingsOk_iff {latency silence : Nat} : headSettingsOk latency silence = true ↔
    latency ≤ 999 ∧ 1 ≤ silence ∧ silence ≤ 60 := by
  simp [headSettingsOk, between]

theorem groundHeadSetup_bad {p : HeadSetupParams} {s : State}
    (h : 3 < p.head ∨ 999 < p.latency ∨ p.silence < 1 ∨ 60 < p.silence) : groundHeadSetup p s = some .badValue := by
  unfold groundHeadSetup
  split
  · rfl
  · rename_i n hn
    have hbad : headSettingsOk p.latency p.silence = false := by
      rw [← Bool.not_eq_true, headSettingsOk_iff]
      obtain hout | hrest := h
      · rw [headOf_eq_none hout] at hn
        exact absurd hn (Option.some_ne_none n).symm
      · omega
    rw [if_pos hbad]

section
variable {p : HeadSetupParams} {n : Head} {s : State}

theorem groundHeadSetup_inUse (hn : p.head = n.val) (hok : headSettingsOk p.latency p.silence = true) (he : p.enable = false)
    (hc : s.occ.active[n].isSome) : groundHeadSetup p s = some .inUse := by
  simp only [groundHeadSetup, hn, headOf_val, hok, Bool.true_eq_false, if_false, he, hc, and_self, if_true]

theorem groundHeadSetup_passes (hn : p.head = n.val) (hok : headSettingsOk p.latency p.silence = true)
    (he : p.enable = true ∨ s.occ.active[n] = none) : groundHeadSetup p s = none := by
  have hnot : ¬ (p.enable = false ∧ s.occ.active[n].isSome = true) := by
    rintro ⟨hoff, hc⟩
    obtain he | he := he
    · simp [hoff] at he
    · simp [he] at hc
  simp only [groundHeadSetup, hn, headOf_val, hok, Bool.true_eq_false, if_false, hnot]

/-- The port of the head after a HEAD_SETUP. -/
def setupPort (p : HeadSetupParams) (n : Head) (s : State) : HeadPort :=
  let q := portUnder p.enable (Config.share s.settings.plan n) s.ports[n]
  { q with state := moveSilence (1000 * ((p.silence : Int) - s.settings.heads[n].silence)) q.state }

theorem setupPort_on (hon : p.enable = true ∧ 0 < Config.share s.settings.plan n) : setupPort p n s = { s.ports[n] with
    state := match s.ports[n].state with
      | .off => .awaiting
      | .awaiting => .awaiting
      | .live e => .live (e + 1000 * ((p.silence : Int) - s.settings.heads[n].silence))
      | .silent => .silent } := by
  unfold setupPort portUnder
  rw [if_pos (by simp [hon.1, hon.2])]
  cases hst : s.ports[n].state <;> simp only [moveSilence, hst]

theorem portUnder_eq_portOff {enable : Bool} {share : Nat} (hoff : ¬ (enable = true ∧ 0 < share)) (q : HeadPort) :
    portUnder enable share q = portOff q := by
  unfold portUnder
  rw [if_neg (by simpa using hoff)]

theorem setupPort_off (hoff : ¬ (p.enable = true ∧ 0 < Config.share s.settings.plan n)) : setupPort p n s = portOff s.ports[n] := by
  unfold setupPort
  rw [portUnder_eq_portOff hoff]
  rfl

theorem storeHead_eq (p : HeadSetupParams) (n : Head) (s : State) : storeHead n p s =
    { s with
      settings := { s.settings with
        heads := s.settings.heads.set n
          { enable := p.enable, latency := p.latency, silence := p.silence, notify := p.notify, halt := p.halt } }
      ports := s.ports.set n (setupPort p n s)
      partitions := if p.enable then s.partitions else s.partitions.set n [] } := by
  unfold storeHead
  dsimp only
  by_cases hon : p.enable = true
  · rw [if_pos hon, if_pos hon]
    rfl
  · rw [if_neg hon, if_neg hon]
    rfl

end

theorem silenceExpires_early {n : Head} {s : State} (h : silenceDue (now s) s.ports[n] = false) : silenceExpires n s = s := by
  unfold silenceExpires
  dsimp only
  rw [h]
  rfl

/-- Settles O17: the grounds in order, then the settings with the port they give; no silence timer is due. -/
theorem headSetupStoresSettingsWithTheirEffects : Obligations.HeadSetupStoresSettingsWithTheirEffects := by
  intro h p s ht
  refine ⟨fun hbad => exec_refuses rfl ht (handleFrame_headSetup ..) (groundHeadSetup_bad hbad), fun n hn hlat hlo hhi => ?_⟩
  have hok : headSettingsOk p.latency p.silence = true := headSettingsOk_iff.mpr ⟨hlat, hlo, hhi⟩
  refine ⟨fun he hc => exec_refuses rfl ht (handleFrame_headSetup ..) (groundHeadSetup_inUse hn hok he hc), fun he hearly => ?_⟩
  refine ⟨setupPort p n s, ?_, setupPort_on, setupPort_off⟩
  have hroom := ht.1.2.2.2
  have hnotDue : silenceDue (now s) (setupPort p n s) = false := silenceDue_eq_false.mpr fun e hstate => by
    by_cases hon : p.enable = true ∧ 0 < Config.share s.settings.plan n
    · rw [setupPort_on hon] at hstate
      cases hst : s.ports[n].state <;> rw [hst] at hstate <;> simp only [reduceCtorEq, HeadState.live.injEq] at hstate
      rw [← hstate]
      exact hearly hon.1 hon.2 _ hst
    · rw [setupPort_off hon] at hstate
      simp [portOff] at hstate
  have hact : actHeadSetup h p s = done h .headSetup .none (storeHead n p s) := by
    simp only [actHeadSetup, hn, headOf_val]
    refine silenceExpires_early ?_
    rw [done_room (by rw [storeHead_eq]; exact hroom.congr rfl rfl rfl)]
    have hport : (answered h .headSetup .done .none (storeHead n p s)).ports[n] = setupPort p n s := by
      rw [storeHead_eq]
      exact vget_set_self ..
    rw [hport]
    have hnow : now (answered h .headSetup .done .none (storeHead n p s)) = now s := by
      rw [storeHead_eq]
      rfl
    rw [hnow]
    exact hnotDue
  rw [storeHead_eq] at hact
  exact exec_done rfl ht (handleFrame_headSetup ..) (groundHeadSetup_passes hn hok he) hact (ht.1.congr rfl rfl rfl rfl rfl rfl rfl)

/-! ## SET_PLAN (R11, R159) -/

theorem handleFrame_setPlan (h : Header) (b : Body Nat) (s : State) :
    handleFrame (.setPlan h b) s = command .setPlan h b groundSetPlan (actSetPlan h) s := rfl

theorem planOf_val (plan : Fin 4) : planOf plan.val = some plan := by simp [planOf]

theorem anyWaits_iff {s : State} : heads.any (waitsForGrant s) = true ↔ ∃ n : Head, s.partitions[n] ≠ [] := by
  rw [List.any_eq_true]
  constructor
  · rintro ⟨n, -, hn⟩
    exact ⟨n, by simpa [waitsForGrant] using hn⟩
  · rintro ⟨n, hn⟩
    exact ⟨n, mem_heads n, by simpa [waitsForGrant] using hn⟩

theorem groundSetPlan_inUse {p : Nat} {s : State} (hp : p ≤ 3) (h : liveContexts s.occ ≠ [] ∨ s.archive.dump.isSome ∨
    s.corr.inFlight.isSome ∨ ∃ n : Head, s.partitions[n] ≠ []) : groundSetPlan p s = some .inUse := by
  have hplan : (planOf p).isNone = false := by simp [planOf, Nat.lt_succ_of_le hp]
  unfold groundSetPlan
  rw [hplan, if_neg Bool.false_ne_true]
  split_ifs with hlive hdump hcorr hwait
  · rfl
  · rfl
  · rfl
  · rfl
  · obtain h | h | h | h := h
    · simp [h] at hlive
    · exact absurd h hdump
    · exact absurd h hcorr
    · exact absurd (anyWaits_iff.mpr h) hwait

theorem groundSetPlan_passes {plan : Fin 4} {s : State} (hl : liveContexts s.occ = []) (hd : s.archive.dump = none)
    (hc : s.corr.inFlight = none) (hp : ∀ n : Head, s.partitions[n] = []) : groundSetPlan plan.val s = none := by
  have hwait : ¬ heads.any (waitsForGrant s) = true := fun h => by
    obtain ⟨n, hn⟩ := anyWaits_iff.mp h
    exact hn (hp n)
  unfold groundSetPlan
  rw [planOf_val, hl, hd, hc, if_neg hwait]
  rfl

theorem portUnder_on {enable : Bool} {share : Nat} (hon : enable = true ∧ 0 < share) (q : HeadPort) :
    portUnder enable share q = { q with
      state := match q.state with
        | .off => .awaiting
        | .awaiting => .awaiting
        | .live e => .live e
        | .silent => .silent } := by
  unfold portUnder
  rw [if_pos (by simp [hon.1, hon.2])]
  obtain ⟨state⟩ := q
  cases state <;> rfl

/-- Settles O18: the grounds in order, then the plan with its ports, the rings emptied and the count at 0. -/
theorem setPlanEmptiesTheArchive : Obligations.SetPlanEmptiesTheArchive := by
  intro h p s ht
  refine ⟨fun hout => exec_refuses rfl ht (handleFrame_setPlan ..) ?_,
    fun hp huse => exec_refuses rfl ht (handleFrame_setPlan ..) (groundSetPlan_inUse hp huse), fun plan hplan hl hd hc hpart => ?_⟩
  · have hnot : ¬ p < 4 := by omega
    simp [groundSetPlan, planOf, hnot]
  · subst hplan
    have hact : actSetPlan h plan.val s = done h .setPlan .none (putPlan plan s) := by simp only [actSetPlan, planOf_val]
    refine ⟨_, exec_done rfl ht (handleFrame_setPlan ..) (groundSetPlan_passes hl hd hc hpart) hact
      (ht.1.congr rfl rfl rfl rfl rfl rfl rfl), fun n => ?_⟩
    rw [vget_four (portOfPlan plan s) n]
    exact ⟨fun hon => portUnder_on hon _, fun hoff => portUnder_eq_portOff hoff _⟩

/-! ## GROUP_SET (R133) -/

theorem handleFrame_groupSet (h : Header) (b : Body GroupSetParams) (s : State) :
    handleFrame (.groupSet h b) s = command .groupSet h b groundGroupSet (actGroupSet h) s := rfl

theorem groupSettingsOk_iff {target wait : Nat} : groupSettingsOk target wait = true ↔
    (2 ≤ target ∧ target ≤ 4) ∧ 1 ≤ wait ∧ wait ≤ 600 := by
  simp [groupSettingsOk, between]

/-- Settles O19: settings are tested and stored; the reply is the group's report after that. -/
theorem groupSetStoresAndReports : Obligations.GroupSetStoresAndReports := by
  intro h g s ht
  refine ⟨fun target wait hbad => ?bad, fun target wait hlo hhi hwlo hwhi => ?inRange, ?report⟩
  case bad =>
    have hnot : groupSettingsOk target wait = false := by
      rw [← Bool.not_eq_true, groupSettingsOk_iff]
      omega
    exact exec_refuses rfl ht (handleFrame_groupSet ..) (by simp [groundGroupSet, hnot])
  case inRange =>
    have hok : groupSettingsOk target wait = true := groupSettingsOk_iff.mpr ⟨⟨hlo, hhi⟩, hwlo, hwhi⟩
    refine ⟨fun ha => exec_refuses rfl ht (handleFrame_groupSet ..) ?_, fun ha => ?_⟩
    · simp only [groundGroupSet, hok, Bool.true_eq_false, if_false, ne_eq, ha, not_false_eq_true, if_true]
    · have hground : groundGroupSet ⟨g, some (target, wait)⟩ s = none := by
        simp only [groundGroupSet, hok, Bool.true_eq_false, if_false, ne_eq, ha, not_true_eq_false]
      have hreport : groupReport g (storeGroup g (some (target, wait)) s) =
          { target := target
            waitLimit := wait
            gathering := false
            run := s.groups[g].run
            arrivals := []
            timer := s.groups[g].timer
            members := memberCount g s.occ } := by
        have hset : (storeGroup g (some (target, wait)) s).settings.groups[g] = { target := target, waitLimit := wait } :=
          vget_set_self ..
        have hlist : (storeGroup g (some (target, wait)) s).groups[g].arrivals = [] := ha
        simp only [groupReport, hset, hlist]
        rfl
      have hact : actGroupSet h ⟨g, some (target, wait)⟩ s = done h .groupSet (.group
          { target := target
            waitLimit := wait
            gathering := false
            run := s.groups[g].run
            arrivals := []
            timer := s.groups[g].timer
            members := memberCount g s.occ }) (storeGroup g (some (target, wait)) s) := by
        rw [← hreport]
        rfl
      exact exec_done rfl ht (handleFrame_groupSet ..) hground hact (ht.1.congr rfl rfl rfl rfl rfl rfl rfl)
  case report => exact exec_done rfl ht (handleFrame_groupSet ..) rfl rfl ht.1

/-! ## QUEUE_MARKS (R145) -/

theorem handleFrame_queueMarks (h : Header) (b : Body (Option (Nat × Nat))) (s : State) :
    handleFrame (.queueMarks h b) s = command .queueMarks h b groundQueueMarks (actQueueMarks h) s := rfl

theorem marksOk_iff {high low : Nat} : marksOk high low = true ↔ 8 ≤ high ∧ high ≤ 46 ∧ 4 ≤ low ∧ low + 4 ≤ high := by
  simp [marksOk, between]
  omega

section
variable {high low : Nat} {s : State}

theorem putMarks_begins (hc : s.out.congested = false) (hq : high ≤ s.out.queue.length) : putMarks high low s =
    raise 7 { s with settings := { s.settings with high := high, low := low }, out := { s.out with congested := true } } := by
  unfold putMarks
  dsimp only
  rw [if_pos (by simp [hc, hq])]

theorem putMarks_ends (hc : s.out.congested = true) (hq : s.out.queue.length ≤ low) : putMarks high low s =
    { s with settings := { s.settings with high := high, low := low }, out := { s.out with congested := false } } := by
  unfold putMarks
  dsimp only
  rw [if_neg (by simp [hc]), if_pos (by simp [hc, hq])]

theorem putMarks_keeps (hc : s.out.congested = false → s.out.queue.length < high)
    (hc' : s.out.congested = true → low < s.out.queue.length) : putMarks high low s =
      { s with settings := { s.settings with high := high, low := low } } := by
  unfold putMarks
  dsimp only
  cases h : s.out.congested
  · rw [if_neg (by simpa using hc h), if_neg (by simp)]
  · rw [if_neg (by simp), if_neg (by simpa using hc' h)]

end

theorem actQueueMarks_some (h : Header) (high low : Nat) (s : State) : actQueueMarks h (some (high, low)) s =
    done h .queueMarks (.marks (putMarks high low s).settings.high (putMarks high low s).settings.low
      (countWithReply (putMarks high low s)) (congestedWithReply (putMarks high low s))) (putMarks high low s) := rfl

/-- Settles O20: the marks decide what the congestion state becomes before the reply joins, and the reply counts itself. -/
theorem queueMarksAreStoredAndEvaluated : Obligations.QueueMarksAreStoredAndEvaluated := by
  intro h s ht
  obtain ⟨hintake, hrestart, hquiet, hlen, hcong⟩ := id ht.1
  refine ⟨fun high low hbad => ?bad, ?report, fun high low t hlo hhi hlow hgap heq => ?marks⟩
  case bad =>
    have hnot : marksOk high low = false := by
      rw [← Bool.not_eq_true, marksOk_iff]
      omega
    exact exec_refuses rfl ht (handleFrame_queueMarks ..) (by simp [groundQueueMarks, hnot])
  case report =>
    have hact : actQueueMarks h none s = done h .queueMarks
        (.marks s.settings.high s.settings.low (s.out.queue.length + 1) s.out.congested) s := by
      rw [← congestedWithReply_of_room ht.1.2.2.2]
      rfl
    exact exec_done rfl ht (handleFrame_queueMarks ..) rfl hact ht.1
  case marks =>
    have hground : groundQueueMarks (some (high, low)) s = none := by
      simp [groundQueueMarks, marksOk_iff.mpr ⟨hlo, hhi, hlow, hgap⟩]
    have hfull : s.out.queue.length < 48 := hlen
    refine ⟨fun hc hq => ?below, fun hc hq => ?reaches, fun hc hq => ?above, fun hc hq => ?stays, fun hc hq => ?ends⟩
    case below =>
      have hput : putMarks high low s = t := (putMarks_keeps (fun _ => by omega) (by simp [hc])).trans heq.symm
      have hatt : Attentive t := by
        rw [heq]
        exact ⟨hintake, hrestart, quiet_congr rfl rfl hquiet, hlen, .inr hq⟩
      have hact : actQueueMarks h (some (high, low)) s = done h .queueMarks
          (.marks high low (s.out.queue.length + 1) false) t := by
        rw [actQueueMarks_some, hput, congestedWithReply_of_room hatt.2.2.2, heq, hc]
        rfl
      exact exec_done rfl ht (handleFrame_queueMarks ..) hground hact hatt
    case reaches =>
      have hput : putMarks high low s = t := (putMarks_keeps (fun _ => by omega) (by simp [hc])).trans heq.symm
      have hact : actQueueMarks h (some (high, low)) s = raise 7 (answered h .queueMarks .done
          (.marks high low (s.out.queue.length + 1) true) t) := by
        have hreply : congestedWithReply t = true := by
          rw [heq]
          simp [congestedWithReply, countWithReply, hq]
        rw [actQueueMarks_some, hput, hreply]
        subst heq
        exact join_begins hfull hc (by exact hq.ge)
      rw [exec_acts_drains rfl ht (handleFrame_queueMarks ..) hground (by rw [actQueueMarks_link, hintake]), hact]
    case above =>
      have hput := putMarks_begins (low := low) hc hq
      obtain ⟨e, hraise⟩ := raise_frame 7
        { s with settings := { s.settings with high := high, low := low }, out := { s.out with congested := true } }
      have hact : actQueueMarks h (some (high, low)) s = answered h .queueMarks .done
          (.marks high low (s.out.queue.length + 1) true) (raise 7 { t with out := { s.out with congested := true } }) := by
        rw [actQueueMarks_some, hput, heq, hraise]
        exact join_told Nat.one_pos (by exact ⟨hlen, .inl rfl⟩) _
      rw [exec_acts_drains rfl ht (handleFrame_queueMarks ..) hground (by rw [actQueueMarks_link, hintake]), hact]
    case stays =>
      have hput : putMarks high low s = t := (putMarks_keeps (by simp [hc]) fun _ => hq).trans heq.symm
      have hatt : Attentive t := by
        rw [heq]
        exact ⟨hintake, hrestart, quiet_congr rfl rfl hquiet, hlen, .inl hc⟩
      have hact : actQueueMarks h (some (high, low)) s = done h .queueMarks
          (.marks high low (s.out.queue.length + 1) true) t := by
        rw [actQueueMarks_some, hput, congestedWithReply_of_room hatt.2.2.2, heq, hc]
        rfl
      exact exec_done rfl ht (handleFrame_queueMarks ..) hground hact hatt
    case ends =>
      have hput : putMarks high low s = { t with out := { s.out with congested := false } } := by
        rw [putMarks_ends hc hq, heq]
      have hatt : Attentive { t with out := { s.out with congested := false } } := by
        rw [heq]
        refine ⟨hintake, hrestart, quiet_congr rfl rfl hquiet, hlen, .inr ?_⟩
        change s.out.queue.length + 1 < high
        omega
      have hact : actQueueMarks h (some (high, low)) s = done h .queueMarks
          (.marks high low (s.out.queue.length + 1) false) { t with out := { s.out with congested := false } } := by
        rw [actQueueMarks_some, hput, congestedWithReply_of_room hatt.2.2.2, heq]
        rfl
      exact exec_done rfl ht (handleFrame_queueMarks ..) hground hact hatt

end Sys2Proof.Machine
end

section
/-! PROOFS. CAL_STAGE and CAL_COMMIT (chapter 2): O21, O38. -/

namespace Sys2Proof.Machine

-- One theorem at a time: side by side, the proofs ask for more threads than the check's memory limit has stacks for.
set_option Elab.async false

/-! ## CAL_STAGE (R22 to R24) -/

theorem handleFrame_calStage (h : Header) (b : Body CalStageParams) (s : State) :
    handleFrame (.calStage h b) s = command .calStage h b groundCalStage (actCalStage h) s := rfl

section
variable {p : CalPart} {n : Head} {s : State}

theorem groundCalStage_passes (hok : partOk p = true) (hidx : partIndexOk (stagedOrCopy n s) p = true) :
    groundCalStage ⟨n.val, p⟩ s = none := by
  simp only [groundCalStage, headOf_val, hok, hidx, Bool.and_self, if_true]

theorem groundCalStage_bad (h : partOk p = false ∨ partIndexOk (stagedOrCopy n s) p = false) :
    groundCalStage ⟨n.val, p⟩ s = some .badValue := by
  have hnot : (partOk p && partIndexOk (stagedOrCopy n s) p) = false := by
    rw [Bool.and_eq_false_iff]
    exact h
  simp only [groundCalStage, headOf_val, hnot, Bool.false_eq_true, if_false]

theorem exec_calStage_passes {h : Header} (ht : Taken .calStage h s) (hok : partOk p = true)
    (hidx : partIndexOk (stagedOrCopy n s) p = true) : exec (.calStage h (.ok ⟨n.val, p⟩)) s = .next
      (answered h .calStage .done .none (setStaged n (some (writePart p (stagedOrCopy n s))) s)) :=
  exec_done rfl ht (handleFrame_calStage ..) (groundCalStage_passes hok hidx) (by simp only [actCalStage, headOf_val])
    (ht.1.congr rfl rfl rfl rfl rfl rfl rfl)

end

theorem tableIndexOk_iff {l : Nat} {t : TablePart} : tableIndexOk l t = true ↔
    t.first ≤ l + 1 ∧ t.first + t.intervals.length ≤ 33 ∧
      ∀ m, t.newLength = some m → m ≤ l ∨ t.intervals ≠ [] ∧ m + 1 ≤ t.first + t.intervals.length := by
  have hlast (m : Nat) : (m ≤ l ∨ m ≤ lastIndex l t) ↔ (m ≤ l ∨ t.intervals ≠ [] ∧ m + 1 ≤ t.first + t.intervals.length) := by
    unfold lastIndex
    cases hi : t.intervals with
    | nil => simp
    | cons x xs =>
      simp only [List.isEmpty_cons, Bool.false_eq_true, if_false, List.length_cons, ne_eq, reduceCtorEq, not_false_eq_true,
        true_and]
      omega
  unfold tableIndexOk
  cases hn : t.newLength with
  | none => simp
  | some m =>
    simp only [Bool.and_eq_true, Bool.or_eq_true, decide_eq_true_eq, Option.some.injEq, forall_eq', hlast, and_assoc]

theorem getElem?_splice {α : Type} (l m : List α) {k : Nat} (hk : k ≤ l.length) (j : Nat) :
    (l.take k ++ m ++ l.drop (k + m.length))[j]? = if k ≤ j ∧ j < k + m.length then m[j - k]? else l[j]? := by
  have hlen : (l.take k).length = k := by simp [hk]
  rw [List.append_assoc]
  by_cases hlow : j < k
  · rw [List.getElem?_append_left (by omega), List.getElem?_take_of_lt hlow, if_neg (by omega)]
  · rw [List.getElem?_append_right (by omega), hlen]
    by_cases hmid : j < k + m.length
    · rw [List.getElem?_append_left (by omega), if_pos (by omega)]
    · rw [List.getElem?_append_right (by omega), List.getElem?_drop, if_neg (by omega)]
      congr 1
      omega

theorem writeIntervals_getElem? {old : List Interval} {t : TablePart} (h1 : 1 ≤ t.first) (hl : t.first ≤ old.length + 1) (k : Nat) :
    (writeIntervals old t)[k]? =
      if t.newLength.any (fun l => decide (l ≤ k)) then none
      else if t.first ≤ k + 1 ∧ k + 1 < t.first + t.intervals.length then t.intervals[k + 1 - t.first]?
      else old[k]? := by
  have hwritten : (if t.intervals.isEmpty then old
      else old.take (t.first - 1) ++ t.intervals ++ old.drop (t.first - 1 + t.intervals.length))[k]? =
        if t.first ≤ k + 1 ∧ k + 1 < t.first + t.intervals.length then t.intervals[k + 1 - t.first]? else old[k]? := by
    have hempty : (if t.intervals.isEmpty then old
        else old.take (t.first - 1) ++ t.intervals ++ old.drop (t.first - 1 + t.intervals.length)) =
          old.take (t.first - 1) ++ t.intervals ++ old.drop (t.first - 1 + t.intervals.length) := by
      cases t.intervals <;> simp
    rw [hempty, getElem?_splice _ _ (by omega)]
    have hiff : (t.first - 1 ≤ k ∧ k < t.first - 1 + t.intervals.length) ↔ (t.first ≤ k + 1 ∧ k + 1 < t.first + t.intervals.length) := by
      omega
    have hidx : k - (t.first - 1) = k + 1 - t.first := by omega
    simp only [hiff, hidx]
  unfold writeIntervals
  dsimp only
  cases hn : t.newLength with
  | none => simpa using hwritten
  | some m =>
    simp only [Option.any_some, decide_eq_true_eq]
    by_cases hm : m ≤ k
    · rw [if_pos hm, List.getElem?_take_eq_none hm]
    · rw [if_neg hm, List.getElem?_take_of_lt (by omega), hwritten]

theorem partOk_first {t : TablePart} (h : partOk (.table t) = true) : 1 ≤ t.first := by
  simp only [partOk, between, Bool.and_eq_true, decide_eq_true_eq] at h
  omega

/-- Settles O21: the part's items and index tests, then the part written into the staged record or a copy of the committed one. -/
theorem calStageWritesAPart : Obligations.CalStageWritesAPart := by
  intro h p s ht
  refine ⟨fun m hm => exec_refuses rfl ht (handleFrame_calStage ..) (by simp [groundCalStage, headOf_eq_none hm]), fun n r hr => ?_⟩
  subst hr
  refine ⟨fun hbad => exec_refuses rfl ht (handleFrame_calStage ..) (groundCalStage_bad (.inl hbad)), ?table, ?tilt, ?temperature⟩
  case table =>
    rintro t rfl hok
    refine ⟨fun hbad => exec_refuses rfl ht (handleFrame_calStage ..) (groundCalStage_bad (.inr ?_)), fun h1 h2 h3 => ?_⟩
    · change tableIndexOk (stagedOrCopy n s).intervals.length t = false
      rw [← Bool.not_eq_true, tableIndexOk_iff]
      rintro ⟨hfirst, hlast, hnew⟩
      obtain hbad | hbad | ⟨l, hl, hlt, hbad⟩ := hbad
      · exact absurd hbad (Nat.not_lt.mpr hfirst)
      · omega
      · obtain hle | ⟨hne, hle⟩ := hnew l hl
        · exact absurd hlt (Nat.not_lt.mpr hle)
        · obtain hbad | hbad := hbad
          · exact hne hbad
          · omega
    · exact ⟨writeIntervals (stagedOrCopy n s).intervals t, writeIntervals_getElem? (partOk_first hok) h1,
        exec_calStage_passes ht hok (tableIndexOk_iff.mpr ⟨h1, h2, h3⟩)⟩
  case tilt =>
    rintro t rfl hok
    exact exec_calStage_passes ht hok rfl
  case temperature =>
    rintro t rfl hok
    exact exec_calStage_passes ht hok rfl

/-! ## CAL_COMMIT (R26, R27, R95) -/

theorem tableOk_iff (upper : Int) (l : List Interval) : tableOk upper l = true ↔
    (∀ (k : Nat) (i j : Interval), l[k]? = some i → l[k + 1]? = some j →
      i.lower < j.lower ∧ endValueOk i (j.lower - 1) = true) ∧
      ∀ i : Interval, l.getLast? = some i → i.lower < upper ∧ endValueOk i upper = true := by
  induction l with
  | nil => simp [tableOk]
  | cons i l ih =>
    cases l with
    | nil =>
      simp only [tableOk, Bool.and_eq_true, decide_eq_true_eq, List.getLast?_singleton, Option.some.injEq, forall_eq']
      exact ⟨fun h => ⟨by simp, h⟩, fun h => h.2⟩
    | cons j l =>
      simp only [tableOk, Bool.and_eq_true, decide_eq_true_eq, ih, List.getLast?_cons_cons]
      constructor
      · rintro ⟨hhead, hrest, hlast⟩
        refine ⟨fun k => ?_, hlast⟩
        cases k with
        | zero =>
          rintro a b ha hb
          obtain rfl : i = a := by simpa using ha
          obtain rfl : j = b := by simpa using hb
          exact hhead
        | succ k => exact fun a b ha hb => hrest k a b (by simpa using ha) (by simpa using hb)
      · rintro ⟨hall, hlast⟩
        exact ⟨hall 0 i j rfl rfl, fun k a b ha hb => hall (k + 1) a b (by simpa using ha) (by simpa using hb), hlast⟩

theorem endValueOk_iff (i : Interval) (e : Int) :
    endValueOk i e = true ↔ (i.base * 1000 + i.factor * (e - i.lower)).natAbs ≤ 99990000000000 := by
  simp only [endValueOk, within, Bool.and_eq_true, decide_eq_true_eq]
  omega

theorem recordConditionsAreThoseOfTheRule : Claim.RecordConditionsAreThoseOfTheRule := by
  intro r
  simp only [recordOk, between, Bool.and_eq_true, decide_eq_true_eq, List.all_eq_true, tableOk_iff, endValueOk_iff, and_assoc]

theorem handleFrame_calCommit (h : Header) (b : Body Nat) (s : State) :
    handleFrame (.calCommit h b) s = command .calCommit h b groundCalCommit (actCalCommit h) s := rfl

theorem isHeld_iff {c : Context} : isHeld c = true ↔ ∃ w, c.state = .held w := by
  unfold isHeld
  split <;> simp_all

section
variable {n : Head} {r : CalRecord} {s : State}

theorem groundCalCommit_inUse {c : Context} (hr : s.cal.staged[n] = some r) (hc : s.occ.active[n] = some c)
    (hnot : ∀ w, c.state ≠ .held w) : groundCalCommit n.val s = some .inUse := by
  have hheld : isHeld c = false := by
    rw [← Bool.not_eq_true, isHeld_iff]
    rintro ⟨w, hw⟩
    exact hnot w hw
  simp only [groundCalCommit, headOf_val, hr, hc, Option.any_some, hheld, Bool.not_false, if_true]

theorem groundCalCommit_record (hr : s.cal.staged[n] = some r) (hc : ∀ c, s.occ.active[n] = some c → ∃ w, c.state = .held w) :
    groundCalCommit n.val s = if recordOk r then none else some .badValue := by
  have hheld : (s.occ.active[n].any fun c => !isHeld c) = false := by
    cases ha : s.occ.active[n] with
    | none => rfl
    | some c => simp [isHeld_iff.mpr (hc c ha)]
  simp only [groundCalCommit, headOf_val, hr, hheld, Bool.false_eq_true, if_false]

end

/-- A taken command whose action ends with a notice that finds room. -/
theorem exec_notes {α : Type} {k : Kind} {h : Header} {c : Instr} {ground : α → State → Option Status} {act : α → State → State}
    {s t : State} {a : α} {n : Notice} (hc : c.isFrame = true) (ht : Taken k h s)
    (hf : handleFrame c s = command k h (.ok a) ground act s) (hg : ground a s = none) (ha : act a s = offerNotice n t)
    (hl : t.link.intake = s.link.intake) (hr : t.sys.restartPending = s.sys.restartPending) (he : t.events = s.events)
    (hs : t.settings.sources = s.settings.sources) (hroom : RoomFor 1 t) : exec c s = .next (noted n t) := by
  obtain ⟨⟨hintake, hrestart, hquiet, -⟩, -, -⟩ := id ht
  have hact : act a s = noted n t := ha.trans (offerNotice_room hroom (hr.trans hrestart))
  rw [exec_acts hc ht hf hg (hact ▸ hl.trans hintake) (hact ▸ quiet_congr he hs hquiet), hact]

theorem calCommitPutsTheStagedRecordInPlace : Claim.CalCommitPutsTheStagedRecordInPlace := by
  intro h s ht
  refine ⟨fun m hm => exec_refuses rfl ht (handleFrame_calCommit ..) (by simp [groundCalCommit, headOf_eq_none hm]), fun n =>
    ⟨fun hnone => exec_refuses rfl ht (handleFrame_calCommit ..) (by simp only [groundCalCommit, headOf_val, hnone]), fun r hr =>
    ⟨fun c hc hnot => exec_refuses rfl ht (handleFrame_calCommit ..) (groundCalCommit_inUse hr hc hnot), fun hheld hbad => ?bad,
      fun hok v t hv heq => ?commit⟩⟩⟩
  case bad =>
    refine exec_refuses rfl ht (handleFrame_calCommit ..) ?_
    rw [groundCalCommit_record hr hheld, if_neg (by simp [hbad])]
  case commit =>
    have hroom : RoomFor 1 t := heq ▸ ht.1.2.2.2.congr rfl rfl rfl
    have hact : actCalCommit h n.val s = staleByCommit n v (answered h .calCommit .done .none t) := by
      rw [← done_room hroom, heq, hv]
      simp only [actCalCommit, headOf_val, hr]
      rfl
    have hground (hc : ∀ c, s.occ.active[n] = some c → ∃ w, c.state = .held w) : groundCalCommit n.val s = none := by
      rw [groundCalCommit_record hr hc, if_pos hok]
    refine ⟨fun hc => ?_, fun c w hc hw hroom2 => ?_⟩
    · refine exec_done rfl ht (handleFrame_calCommit ..) (hground (by simp [hc])) ?_
        (heq ▸ ht.1.congr rfl rfl rfl rfl rfl rfl rfl)
      rw [hact, done_room hroom]
      unfold staleByCommit
      have hactive : (answered h .calCommit .done .none t).occ.active[n] = none := by
        rw [heq]
        exact hc
      rw [hactive]
    · have hactive : (answered h .calCommit .done .none t).occ.active[n] = some c := by
        rw [heq]
        exact hc
      have hstale : staleByCommit n v (answered h .calCommit .done .none t) = offerNotice (.contextStale c.tag c.head c.version v true)
          (setActive n (some (stale c)) (answered h .calCommit .done .none t)) := by
        unfold staleByCommit
        rw [hactive]
        dsimp only
        rw [if_pos (isHeld_iff.mpr ⟨w, hw⟩)]
      have hnotes := exec_notes (c := .calCommit h (.ok n.val)) rfl ht (handleFrame_calCommit ..)
        (hground fun c' hc' => ⟨w, by rw [← Option.some.inj (hc.symm.trans hc')]; exact hw⟩) (hact.trans hstale)
        (by rw [heq]; rfl) (by rw [heq]; rfl) (by rw [heq]; rfl) (by rw [heq]; rfl)
        (by
          have htold : RoomFor 1 (answered h .calCommit .done .none t) := room_told (heq ▸ hroom2.congr rfl rfl rfl) _
          exact htold.congr rfl rfl rfl)
      rw [hnotes, heq]
      rfl

/-- Settles O38: the conditions of a record are those of R26, and a commit puts the record in place and makes a held context stale. -/
theorem calCommitTestsAndCommits : Obligations.CalCommitTestsAndCommits :=
  ⟨recordConditionsAreThoseOfTheRule, calCommitPutsTheStagedRecordInPlace⟩

end Sys2Proof.Machine
end

section
/-! PROOFS. EVT_SETUP and EVT_CLEAR (R129, R130): O36. -/

namespace Sys2Proof.Machine

-- One theorem at a time: side by side, the proofs ask for more threads than the check's memory limit has stacks for.
set_option Elab.async false

theorem handleFrame_evtSetup (h : Header) (b : Body (List EvtEntry)) (s : State) :
    handleFrame (.evtSetup h b) s = command .evtSetup h b groundEvtSetup (actEvtSetup h) s := rfl

theorem handleFrame_evtClear (h : Header) (b : Body (BitVec 8)) (s : State) :
    handleFrame (.evtClear h b) s = command .evtClear h b (fun _ _ => none) (actEvtClear h) s := rfl

/-! ## What one entry does to a source -/

/-- A source's settings and flags are what they were. -/
structure SameSource (s t : State) (j : Source) : Prop where
  settings : t.settings.sources[j] = s.settings.sources[j]
  pending : t.events.pending.getLsbD j.val = s.events.pending.getLsbD j.val
  rearm : t.events.rearm.getLsbD j.val = s.events.rearm.getLsbD j.val

/-- An entry has been applied to the source it names. -/
structure EntryApplied (e : EvtEntry) (s t : State) (j : Source) : Prop where
  stored : t.settings.sources[j] = { mode := e.mode, masked := e.masked, notify := e.notify }
  kept : (4 ≤ j.val ∨ s.settings.sources[j].mode = e.mode) →
    t.events.pending.getLsbD j.val = s.events.pending.getLsbD j.val ∧
    t.events.rearm.getLsbD j.val = s.events.rearm.getLsbD j.val
  entered : j.val < 4 → s.settings.sources[j].mode ≠ e.mode →
    t.events.rearm.getLsbD j.val =
      (e.mode == .high && !s.events.level.getLsbD j.val || e.mode == .low && s.events.level.getLsbD j.val) ∧
    t.events.pending.getLsbD j.val = (s.events.pending.getLsbD j.val ||
      (e.mode == .high && s.events.level.getLsbD j.val || e.mode == .low && !s.events.level.getLsbD j.val))

/-- A list of entries has been applied, each to its own source, and nothing else has changed. -/
structure EntriesApplied (l : List EvtEntry) (s t : State) : Prop where
  same : t = { s with
    settings := { s.settings with sources := t.settings.sources }
    events := { s.events with pending := t.events.pending, rearm := t.events.rearm } }
  others : ∀ j : Source, (∀ e ∈ l, e.source ≠ j.val) → SameSource s t j
  named : ∀ e ∈ l, ∀ j : Source, e.source = j.val → EntryApplied e s t j

/-- The source of an entry, stored. -/
def storeEntry (i : Source) (e : EvtEntry) (s : State) : State :=
  { s with settings := { s.settings with
      sources := s.settings.sources.set i { mode := e.mode, masked := e.masked, notify := e.notify } } }

theorem storeEntry_self (i : Source) (e : EvtEntry) (s : State) :
    (storeEntry i e s).settings.sources[i] = { mode := e.mode, masked := e.masked, notify := e.notify } := vget_set_self ..

theorem storeEntry_other {i j : Source} (h : j ≠ i) (e : EvtEntry) (s : State) : SameSource s (storeEntry i e s) j :=
  ⟨vget_set_ne _ (Ne.symm h) _, rfl, rfl⟩

theorem applyEntry_eq {e : EvtEntry} {i : Source} (h : e.source = i.val) (s : State) : applyEntry s e =
    match lineOf i with
    | none => storeEntry i e s
    | some k => if s.settings.sources[i].mode = e.mode then storeEntry i e s else enterMode k (storeEntry i e s) := by
  have hsource : sourceOf e.source = some i := by simp [sourceOf, h]
  unfold applyEntry
  rw [hsource]
  rfl

theorem storeEntry_applied {e : EvtEntry} {i : Source} (h : e.source = i.val) {s : State}
    (hkeep : 4 ≤ i.val ∨ s.settings.sources[i].mode = e.mode) : EntriesApplied [e] s (storeEntry i e s) where
  same := rfl
  others j hj := storeEntry_other (by rintro rfl; exact hj e (List.mem_singleton_self e) h) e s
  named e' he j hj := by
    obtain rfl := List.mem_singleton.mp he
    obtain rfl : i = j := Fin.ext (h.symm.trans hj)
    refine ⟨storeEntry_self .., fun _ => ⟨rfl, rfl⟩, fun hlt hne => ?_⟩
    obtain hge | heq := hkeep
    · omega
    · exact absurd heq hne

theorem enterMode_applied {e : EvtEntry} {i : Source} {k : Fin 4} (h : e.source = i.val) (hk : lineSource k = i) {s : State}
    (hr : s.sys.part = .ready) (hne : s.settings.sources[i].mode ≠ e.mode) :
    EntriesApplied [e] s (enterMode k (storeEntry i e s)) := by
  have henters : Enters [k] (storeEntry i e s) (enterMode k (storeEntry i e s)) := enterMode_enters (by exact hr) k
  obtain ⟨hsame, hpending, hrearm⟩ := henters
  have hki : k.val = i.val := congrArg Fin.val hk
  have hset : (enterMode k (storeEntry i e s)).settings = (storeEntry i e s).settings := by rw [hsame]
  have hmode : (storeEntry i e s).settings.sources[lineSource k].mode = e.mode := by
    subst hk
    rw [storeEntry_self]
  refine ⟨by rw [hsame]; rfl, fun j hj => ?others, fun e' he j hj => ?named⟩
  case others =>
    have hji : j ≠ i := by
      rintro rfl
      exact hj e (List.mem_singleton_self e) h
    have hval : k.val ≠ j.val := fun heq => hji (Fin.ext (heq.symm.trans hki))
    refine ⟨by rw [hset]; exact (storeEntry_other hji e s).settings, ?_, ?_⟩
    · refine (hpending j.val).trans ?_
      rw [decide_eq_false (by simp [hval]), Bool.or_false]
      rfl
    · by_cases hlt : j.val < 4
      · refine (hrearm ⟨j.val, hlt⟩).trans ?_
        rw [if_neg (by simp [Fin.ext_iff, Ne.symm hval])]
        rfl
      · rw [BitVec.getLsbD_of_ge _ _ (by omega), BitVec.getLsbD_of_ge _ _ (by omega)]
  case named =>
    obtain rfl := List.mem_singleton.mp he
    obtain rfl : i = j := Fin.ext (h.symm.trans hj)
    refine ⟨by rw [hset, storeEntry_self], fun hkeep => ?_, fun hlt _ => ⟨?_, ?_⟩⟩
    · obtain hge | heq := hkeep
      · omega
      · exact absurd heq hne
    · rw [← hki]
      refine (hrearm k).trans ?_
      rw [if_pos (List.mem_singleton_self k), rests, hmode]
      rfl
    · refine (hpending i.val).trans ?_
      have hex : decide (∃ k' ∈ [k], k'.val = i.val ∧ asks (storeEntry i e' s) k' = true) = asks (storeEntry i e' s) k := by
        simp [hki]
      rw [hex, asks, hmode, hki]
      rfl

theorem applyEntry_applied {e : EvtEntry} (h : e.source ≤ 7) {s : State} (hr : s.sys.part = .ready) :
    EntriesApplied [e] s (applyEntry s e) := by
  obtain ⟨i, hi⟩ : ∃ i : Source, e.source = i.val := ⟨⟨e.source, Nat.lt_succ_of_le h⟩, rfl⟩
  rw [applyEntry_eq hi]
  by_cases hline : i.val < 4
  · simp only [lineOf, hline, dif_pos]
    split
    · rename_i hkeep
      exact storeEntry_applied hi (.inr hkeep)
    · rename_i hne
      exact enterMode_applied hi rfl hr hne
  · simp only [lineOf, hline, dif_neg, not_false_eq_true]
    exact storeEntry_applied hi (.inl (by omega))

/-! ## A list of entries -/

theorem EntriesApplied.cons {e : EvtEntry} {l : List EvtEntry} {s t u : State} (hnot : e.source ∉ l.map fun e => e.source)
    (h : EntriesApplied [e] s t) (k : EntriesApplied l t u) : EntriesApplied (e :: l) s u where
  same := by
    rw [k.same, h.same]
  others j hj := by
    obtain ⟨hset, hpend, hre⟩ := h.others j fun e' he => hj e' (List.mem_singleton.mp he ▸ List.mem_cons_self ..)
    obtain ⟨kset, kpend, kre⟩ := k.others j fun e' he => hj e' (List.mem_cons_of_mem _ he)
    exact ⟨kset.trans hset, kpend.trans hpend, kre.trans hre⟩
  named e' he j hj := by
    obtain rfl | he := List.mem_cons.mp he
    · have hrest : ∀ e ∈ l, e.source ≠ j.val := fun e he heq => hnot (List.mem_map.mpr ⟨e, he, heq.trans hj.symm⟩)
      obtain ⟨kset, kpend, kre⟩ := k.others j hrest
      obtain ⟨hstored, hkept, hentered⟩ := h.named e' (List.mem_singleton_self e') j hj
      exact ⟨kset.trans hstored, by rw [kpend, kre]; exact hkept, by rw [kpend, kre]; exact hentered⟩
    · have hother : ∀ x ∈ [e], x.source ≠ j.val := fun x hx heq => by
        rw [List.mem_singleton.mp hx] at heq
        exact hnot (List.mem_map.mpr ⟨e', he, hj.trans heq.symm⟩)
      obtain ⟨hset, hpend, hre⟩ := h.others j hother
      have hlevel : t.events.level = s.events.level := by rw [h.same]
      obtain ⟨kstored, kkept, kentered⟩ := k.named e' he j hj
      rw [hset, hpend, hre] at kkept
      rw [hset, hpend, hlevel] at kentered
      exact ⟨kstored, kkept, kentered⟩

theorem applyEntries_applied {l : List EvtEntry} (hl : ∀ e ∈ l, e.source ≤ 7) (hd : (l.map fun e => e.source).Nodup) {s : State}
    (hr : s.sys.part = .ready) : EntriesApplied l s (l.foldl applyEntry s) := by
  induction l generalizing s with
  | nil => exact ⟨rfl, fun j _ => ⟨rfl, rfl, rfl⟩, by simp⟩
  | cons e l ih =>
    obtain ⟨hnot, hd⟩ := List.nodup_cons.mp hd
    have hone := applyEntry_applied (hl e (List.mem_cons_self ..)) hr
    have hready : (applyEntry s e).sys.part = .ready := by rw [hone.same]; exact hr
    exact hone.cons hnot (ih (fun e he => hl e (List.mem_cons_of_mem _ he)) hd hready)

/-! ## The command -/

theorem distinct_iff (l : List Nat) : distinct l = true ↔ l.Nodup := by
  induction l with
  | nil => simp [distinct]
  | cons a l ih => simp [distinct, ih]

theorem evtEntryOk_iff (e : EvtEntry) : evtEntryOk e = true ↔
    e.source ≤ 7 ∧ (e.source < 4 → e.mode ≠ .on) ∧ (4 ≤ e.source → e.mode = .off ∨ e.mode = .on) := by
  unfold evtEntryOk modeOk
  cases e.mode <;> simp <;> omega

theorem groundEvtSetup_eq_none {l : List EvtEntry} {s : State} : groundEvtSetup l s = none ↔
    l.length ≤ 8 ∧ (∀ e ∈ l, evtEntryOk e = true) ∧ (l.map fun e => e.source).Nodup := by
  unfold groundEvtSetup
  simp only [List.all_eq_true, distinct_iff]
  split
  · rename_i h
    exact iff_of_true rfl h
  · rename_i h
    exact iff_of_false (by simp) h

theorem groundEvtSetup_bad {l : List EvtEntry} {s : State} (h : groundEvtSetup l s ≠ none) : groundEvtSetup l s = some .badValue := by
  unfold groundEvtSetup at h ⊢
  split at h
  · exact absurd rfl h
  · rename_i hnot
    exact if_neg hnot

section
variable {h : Header} {l : List EvtEntry} {s t : State}

theorem RoomFor.of_applied {k : Nat} (hroom : RoomFor k s) (ha : EntriesApplied l s t) : RoomFor k t := by
  rw [ha.same]
  exact hroom.congr rfl rfl rfl

theorem actEvtSetup_applied (hroom : RoomFor 1 s) (ha : EntriesApplied l s (l.foldl applyEntry s)) : actEvtSetup h l s =
    answered h .evtSetup .done (.sources (sourceReports (l.foldl applyEntry s)) s.events.level) (l.foldl applyEntry s) := by
  have hlevel : (l.foldl applyEntry s).events.level = s.events.level := by rw [ha.same]
  unfold actEvtSetup
  rw [done_room (hroom.of_applied ha), hlevel]

theorem exec_evtSetup (ht : Taken .evtSetup h s) (hg : groundEvtSetup l s = none) : exec (.evtSetup h (.ok l)) s =
    .next (drain (answered h .evtSetup .done (.sources (sourceReports (l.foldl applyEntry s)) s.events.level)
      (l.foldl applyEntry s))) ∧ EntriesApplied l s (l.foldl applyEntry s) := by
  obtain ⟨-, hok, hd⟩ := groundEvtSetup_eq_none.mp hg
  have ha := applyEntries_applied (s := s) (fun e he => ((evtEntryOk_iff e).mp (hok e he)).1) hd ht.2.1
  have hact := actEvtSetup_applied (h := h) ht.1.2.2.2 ha
  have hlink : (actEvtSetup h l s).link.intake = [] := by
    rw [actEvtSetup_link]
    exact ht.1.1
  exact ⟨by rw [exec_acts_drains rfl ht (handleFrame_evtSetup ..) hg hlink, hact], ha⟩

end

theorem sourceReports_eq (s : State) : sourceReports s = (List.finRange 8).map fun j =>
    { mode := s.settings.sources[j].mode
      masked := s.settings.sources[j].masked
      notify := s.settings.sources[j].notify
      pending := s.events.pending.getLsbD j.val } := rfl

theorem evtSetupAppliesEveryEntry : Claim.EvtSetupAppliesEveryEntry := by
  intro h l s ht hlen hd hok
  obtain ⟨hexec, hsame, hothers, hnamed⟩ :=
    exec_evtSetup ht (groundEvtSetup_eq_none.mpr ⟨hlen, fun e he => (evtEntryOk_iff e).mpr (hok e he), hd⟩)
  refine ⟨l.foldl applyEntry s, _, hexec, hsame, sourceReports_eq _, fun j hj => ?_, fun e he j hj => ?_⟩
  · obtain ⟨hset, hpend, hre⟩ := hothers j hj
    exact ⟨hset, hpend, hre⟩
  · obtain ⟨hstored, hkept, hentered⟩ := hnamed e he j hj
    exact ⟨hstored, hkept, hentered⟩

/-- One entry changes the settings of its own source. -/
theorem EntriesApplied.sources_one {e : EvtEntry} {i : Source} (h : e.source = i.val) {s t : State} (ha : EntriesApplied [e] s t) :
    t.settings.sources = s.settings.sources.set i { mode := e.mode, masked := e.masked, notify := e.notify } := by
  refine Vector.ext fun j hj => ?_
  by_cases hji : (⟨j, hj⟩ : Source) = i
  · subst hji
    rw [Vector.getElem_set_self]
    exact (ha.named e (List.mem_singleton_self e) _ h).stored
  · have hne : i.val ≠ j := fun heq => hji (Fin.ext heq.symm)
    rw [Vector.getElem_set_ne _ _ hne]
    exact (ha.others ⟨j, hj⟩ fun e' he => by
      obtain rfl := List.mem_singleton.mp he
      rw [h]
      exact hne).settings

/-- An entry that masks its source leaves the event unit quiet. -/
theorem EntriesApplied.quiet_of_masked {e : EvtEntry} {i : Source} (h : e.source = i.val) (hm : e.masked = true) {s t : State}
    (ha : EntriesApplied [e] s t) (hq : Quiet s) : Quiet t := by
  obtain ⟨hlatch, hnone⟩ := quiet_iff.mp hq
  refine quiet_iff.mpr ⟨by rw [ha.same]; exact hlatch, fun j => ?_⟩
  by_cases hji : j = i
  · subst hji
    simp only [askedFor, (ha.named e (List.mem_singleton_self e) j h).stored, hm, Bool.not_true, Bool.and_false]
  · obtain ⟨hset, hpend, -⟩ := ha.others j fun e' he heq => by
      obtain rfl := List.mem_singleton.mp he
      exact hji (Fin.ext (heq.symm.trans h))
    have hj := hnone j
    unfold askedFor inSet at hj ⊢
    rw [hset, hpend]
    exact hj

/-- An entry that changes no line's mode leaves the events as they were. -/
theorem EntriesApplied.events_eq {e : EvtEntry} {i : Source} (h : e.source = i.val) {s t : State} (ha : EntriesApplied [e] s t)
    (hkeep : 4 ≤ i.val ∨ s.settings.sources[i].mode = e.mode) : t.events = s.events := by
  have hbits (j : Source) : t.events.pending.getLsbD j.val = s.events.pending.getLsbD j.val ∧
      t.events.rearm.getLsbD j.val = s.events.rearm.getLsbD j.val := by
    by_cases hji : j = i
    · subst hji
      exact (ha.named e (List.mem_singleton_self e) j h).kept hkeep
    · obtain ⟨-, hpend, hre⟩ := ha.others j fun e' he heq => by
        obtain rfl := List.mem_singleton.mp he
        exact hji (Fin.ext (heq.symm.trans h))
      exact ⟨hpend, hre⟩
  have hpend : t.events.pending = s.events.pending := BitVec.eq_of_getLsbD_eq fun j hj => (hbits ⟨j, hj⟩).1
  have hre : t.events.rearm = s.events.rearm := BitVec.eq_of_getLsbD_eq fun j hj => (hbits ⟨j, by omega⟩).2
  rw [ha.same, hpend, hre]

theorem evtSetupStoresAndEntersModes : Claim.EvtSetupStoresAndEntersModes := by
  intro h s ht
  refine ⟨fun l hbad => ?bad, ?empty, fun e i hi hm hok => ?one⟩
  case bad =>
    refine exec_refuses rfl ht (handleFrame_evtSetup ..) (groundEvtSetup_bad fun hg => ?_)
    obtain ⟨hlen, hok, hd⟩ := groundEvtSetup_eq_none.mp hg
    have hentry (e : EvtEntry) (he : e ∈ l) := (evtEntryOk_iff e).mp (hok e he)
    obtain hbad | ⟨e, he, hbad⟩ | ⟨e, he, hlt, hbad⟩ | ⟨e, he, hge, hoff, hon⟩ | hbad := hbad
    · omega
    · have := (hentry e he).1
      omega
    · exact (hentry e he).2.1 hlt hbad
    · exact ((hentry e he).2.2 hge).elim hoff hon
    · exact hbad hd
  case empty =>
    exact ⟨_, exec_done rfl ht (handleFrame_evtSetup ..) (groundEvtSetup_eq_none.mpr (by simp)) rfl ht.1⟩
  case one =>
    have hg : groundEvtSetup [e] s = none := by
      refine groundEvtSetup_eq_none.mpr ⟨by simp, ?_, by simp⟩
      intro e' he
      obtain rfl := List.mem_singleton.mp he
      rw [evtEntryOk_iff, hi]
      exact ⟨by omega, hok⟩
    obtain ⟨hexec, ha⟩ := exec_evtSetup ht hg
    rw [drain_quiet (by exact quiet_congr rfl rfl (ha.quiet_of_masked hi hm ht.1.2.2.1))] at hexec
    have hother (j : Source) (hj : j ≠ i) : SameSource s ([e].foldl applyEntry s) j := ha.others j fun e' he heq => by
      obtain rfl := List.mem_singleton.mp he
      exact hj (Fin.ext (heq.symm.trans hi))
    refine ⟨[e].foldl applyEntry s, _, hexec, ?_, fun j => ?_, fun j hj => (hother j hj).pending, fun k hk => ?_,
      ha.events_eq hi, (ha.named e (List.mem_singleton_self e) i hi).entered⟩
    · conv_lhs => rw [ha.same]
      rw [ha.sources_one hi]
    · rw [sourceReports_eq, List.getElem?_map, List.getElem?_eq_getElem (by simp), List.getElem_finRange]
      rfl
    · exact (hother ⟨k.val, by omega⟩ fun heq => hk (congrArg Fin.val heq)).rearm

theorem evtClearDropsRequests : Claim.EvtClearDropsRequests := by
  intro h l s ht
  obtain ⟨hintake, hrestart, hquiet, hroom⟩ := id ht.1
  refine exec_done rfl ht (handleFrame_evtClear ..) rfl rfl ⟨hintake, hrestart, ?_, hroom.congr rfl rfl rfl⟩
  obtain ⟨hlatch, hnone⟩ := quiet_iff.mp hquiet
  refine quiet_iff.mpr ⟨hlatch, fun i => ?_⟩
  have hi := hnone i
  simp only [askedFor, inSet, Bool.and_eq_false_iff] at hi ⊢
  rw [BitVec.getLsbD_and, Bool.and_eq_false_iff]
  exact hi.imp_left .inl

/-- Settles O36: entries are applied one by one, each to its own source; clearing drops the named requests. -/
theorem eventSourceCommandsSetUpAndClear : Obligations.EventSourceCommandsSetUpAndClear :=
  ⟨evtSetupStoresAndEntersModes, evtSetupAppliesEveryEntry, evtClearDropsRequests⟩

end Sys2Proof.Machine
end

section
/-! PROOFS. STREAM_SELECT, STREAM_BATCH and FLUSH_EXPIRY (chapter 8): O37. -/

namespace Sys2Proof.Machine

-- One theorem at a time: side by side, the proofs ask for more threads than the check's memory limit has stacks for.
set_option Elab.async false

theorem toList_four {α : Type} (v : Vector α 4) : v.toList = [v[0], v[1], v[2], v[3]] := by
  refine List.ext_getElem (by simp) fun i h1 _ => ?_
  have hi : i < 4 := by simpa using h1
  interval_cases i <;> simp

/-! ## STREAM_SELECT (R152) -/

theorem handleFrame_streamSelect (h : Header) (b : Body StreamSelectParams) (s : State) :
    handleFrame (.streamSelect h b) s = command .streamSelect h b groundStreamSelect (actStreamSelect h) s := rfl

theorem selectorOf_val (k : Fin 4) : selectorOf k.val = some k := by simp [selectorOf]

theorem streamSelectReplacesASelector : Claim.StreamSelectReplacesASelector := by
  intro h p s ht
  refine ⟨fun hbad => exec_refuses rfl ht (handleFrame_streamSelect ..) ?_, fun k l hk hvalue hl => ?_⟩
  · unfold groundStreamSelect
    by_cases hsel : 3 < p.selector
    · have hnone : selectorOf p.selector = none := dif_neg (by omega)
      rw [hnone]
      rfl
    · obtain ⟨k, hk⟩ : ∃ k : Fin 4, p.selector = k.val := ⟨⟨p.selector, by omega⟩, rfl⟩
      rw [hk, selectorOf_val, if_neg (by simp), if_pos (hbad.resolve_left hsel)]
  · have hground : groundStreamSelect p s = none := by
      unfold groundStreamSelect
      rw [hk, selectorOf_val, if_neg (by simp), if_neg (by simp [hvalue])]
    have hact : actStreamSelect h p s = done h .streamSelect (.selectors [l[0], l[1], l[2], l[3]])
        { s with settings := { s.settings with selectors := l } } := by
      unfold actStreamSelect
      rw [hk, selectorOf_val]
      dsimp only
      rw [← hl, toList_four]
    exact exec_done rfl ht (handleFrame_streamSelect ..) hground hact (ht.1.congr rfl rfl rfl rfl rfl rfl rfl)

/-! ## A batch that is offered (R142, R146, R153) -/

section
variable {n : Head} {cause : BatchCause} {s : State}

theorem offerBatch_joins (hroom : RoomFor 1 s) (hc : s.out.congested = false) (hr : s.sys.restartPending = false) :
    offerBatch n cause s = told (.batch n cause s.batches[n].records) (setBatch n { records := [], expiry := none } s) := by
  unfold offerBatch
  dsimp only
  rw [if_pos (by rw [hasEntry_of_room Nat.one_pos hroom hr, hc]; rfl)]
  exact join_told Nat.one_pos (by exact hroom.congr rfl rfl rfl) _

theorem offerBatch_discarded (h : s.out.congested = true ∨ hasEntry s = false) : offerBatch n cause s =
    { setBatch n { records := [], expiry := none } s with
      out := { s.out with samplesDropped := min (s.out.samplesDropped + s.batches[n].records.length) 65535 } } := by
  have hnot : (hasEntry s && !s.out.congested) = false := by
    obtain h | h := h <;> simp [h]
  unfold offerBatch
  dsimp only
  rw [if_neg (by simp [hnot])]
  rfl

end

theorem flushExpiryOffersTheBatch : Claim.FlushExpiryOffersTheBatch := by
  intro n s t e he hdue hq ht
  have hexec : exec (.flushExpiry n) s = .next (latchNext (offerBatch n .flush s)) := by
    have h : due (now s) s.batches[n].expiry = true := by rw [he, due_some]; exact decide_eq_true hdue
    simp only [exec, execFlushExpiry, h, if_true]
  rw [hexec]
  refine ⟨fun hroom hc hr => ?_, fun h => ?_⟩
  · rw [offerBatch_joins hroom hc hr, latchNext_quiet (by exact quiet_congr rfl rfl hq), ht]
    rfl
  · rw [offerBatch_discarded h, latchNext_quiet (by exact quiet_congr rfl rfl hq), ht]
    rfl

/-! ## STREAM_BATCH (R155) -/

theorem handleFrame_streamBatch (h : Header) (b : Body (Option (Nat × Nat))) (s : State) :
    handleFrame (.streamBatch h b) s = command .streamBatch h b groundStreamBatch (actStreamBatch h) s := rfl

theorem batchingOk_iff {threshold flush : Nat} : batchingOk threshold flush = true ↔
    (1 ≤ threshold ∧ threshold ≤ 16) ∧ 100 ≤ flush ∧ flush ≤ 10000 := by
  simp [batchingOk, between]

section
variable {m : Int} {n : Head} {s : State}

theorem rebatch_empty (h : s.batches[n].records = []) : rebatch m s n = s := by
  unfold rebatch
  dsimp only
  rw [if_pos (by simp only [h, List.isEmpty_nil])]

theorem rebatch_full (hlen : s.settings.threshold ≤ s.batches[n].records.length) (hne : s.batches[n].records ≠ []) :
    rebatch m s n = offerBatch n .threshold s := by
  unfold rebatch
  dsimp only
  rw [if_neg (by simpa only [List.isEmpty_iff] using hne), if_pos hlen]

theorem rebatch_moves (hne : s.batches[n].records ≠ []) (hlen : s.batches[n].records.length < s.settings.threshold)
    (hearly : ∀ e, s.batches[n].expiry = some e → (s.clock.time : Int) < e + m) :
    rebatch m s n = setBatch n { s.batches[n] with expiry := s.batches[n].expiry.map fun x => x + m } s := by
  have hdue : due (now s) (s.batches[n].expiry.map fun x => x + m) = false := due_eq_false.mpr fun x hx => by
    obtain ⟨e, he, rfl⟩ := Option.map_eq_some_iff.mp hx
    exact hearly e he
  unfold rebatch
  dsimp only
  rw [if_neg (by simpa only [List.isEmpty_iff] using hne), if_neg (Nat.not_le.mpr hlen), if_neg (by simp only [hdue, Bool.false_eq_true, not_false_eq_true])]

end

/-- A batch after its flush expiry was moved. -/
def movedBatch (m : Int) (b : Batch) : Batch :=
  if b.records = [] then b else { b with expiry := b.expiry.map fun x => x + m }

theorem rebatch_moved {m : Int} {n : Head} {s : State} (hlen : s.batches[n].records.length < s.settings.threshold)
    (hearly : ∀ e, s.batches[n].expiry = some e → (s.clock.time : Int) < e + m) :
    rebatch m s n = setBatch n (movedBatch m s.batches[n]) s := by
  unfold movedBatch
  split
  · rename_i hempty
    rw [rebatch_empty hempty]
    simp only [setBatch, Vector.set_getElem_self, Fin.getElem_fin]
  · rename_i hne
    exact rebatch_moves hne hlen hearly

/-- With no batch at the threshold and no moved expiry due, each head's batch has its expiry moved. -/
theorem rebatchAll_moved {m : Int} {l : List Head} (hd : l.Nodup) {s : State}
    (h : ∀ n ∈ l, s.batches[n].records.length < s.settings.threshold ∧
      ∀ e, s.batches[n].expiry = some e → (s.clock.time : Int) < e + m) :
    ∃ b : Vector Batch 4, l.foldl (rebatch m) s = { s with batches := b } ∧
      ∀ n : Head, b[n] = if n ∈ l then movedBatch m s.batches[n] else s.batches[n] := by
  induction l generalizing s with
  | nil => exact ⟨s.batches, rfl, fun n => by simp⟩
  | cons k l ih =>
    obtain ⟨hk, hd⟩ := List.nodup_cons.mp hd
    obtain ⟨hlen, hearly⟩ := h k (List.mem_cons_self ..)
    have hother (n : Head) (hn : n ≠ k) : (setBatch k (movedBatch m s.batches[k]) s).batches[n] = s.batches[n] :=
      vget_set_ne _ (Ne.symm hn) _
    have hrest : ∀ n ∈ l, (setBatch k (movedBatch m s.batches[k]) s).batches[n].records.length < s.settings.threshold ∧
        ∀ e, (setBatch k (movedBatch m s.batches[k]) s).batches[n].expiry = some e → (s.clock.time : Int) < e + m := fun n hn => by
      rw [hother n fun heq => hk (heq ▸ hn)]
      exact h n (List.mem_cons_of_mem _ hn)
    obtain ⟨b, hfold, hb⟩ := ih hd (s := setBatch k (movedBatch m s.batches[k]) s) hrest
    refine ⟨b, by rw [List.foldl_cons, rebatch_moved hlen hearly, hfold]; rfl, fun n => ?_⟩
    rw [hb n]
    by_cases hn : n = k
    · subst hn
      rw [if_neg hk, if_pos (List.mem_cons_self ..)]
      exact vget_set_self ..
    · rw [hother n hn]
      simp only [List.mem_cons, hn, false_or]

/-- A fold whose steps do something for one element alone. -/
theorem foldl_only {α β : Type} {f : β → α → β} {l : List α} {a : α} {x : β} (hd : l.Nodup) (ha : a ∈ l)
    (hbefore : ∀ b, b ≠ a → f x b = x) (hafter : ∀ b, b ≠ a → f (f x a) b = f x a) : l.foldl f x = f x a := by
  have hstay (y : β) (l : List α) (hl : ∀ b ∈ l, f y b = y) : l.foldl f y = y := by
    induction l with
    | nil => rfl
    | cons b l ih => rw [List.foldl_cons, hl b (List.mem_cons_self ..), ih fun c hc => hl c (List.mem_cons_of_mem _ hc)]
  obtain ⟨l₁, l₂, rfl⟩ := List.append_of_mem ha
  have hne : ∀ b ∈ l₁ ++ l₂, b ≠ a := fun b hb heq => (List.nodup_middle.mp hd |> List.nodup_cons.mp).1 (heq ▸ hb)
  rw [List.foldl_append, List.foldl_cons, hstay x l₁ fun b hb => hbefore b (hne b (List.mem_append_left _ hb)),
    hstay (f x a) l₂ fun b hb => hafter b (hne b (List.mem_append_right _ hb))]

theorem actStreamBatch_some {h : Header} {threshold flush : Nat} {s : State} (hroom : RoomFor 1 s) :
    actStreamBatch h (some (threshold, flush)) s = heads.foldl (rebatch ((flush : Int) - s.settings.flush))
      (answered h .streamBatch .done (.batching threshold flush (batchLengths s))
        { s with settings := { s.settings with threshold := threshold, flush := flush } }) := by
  rw [← done_room (by exact hroom.congr rfl rfl rfl)]
  rfl

theorem streamBatchBringsBatchesUnderNewSettings : Claim.StreamBatchBringsBatchesUnderNewSettings := by
  intro h s lengths ht hlengths
  have hbatchLengths : batchLengths s = lengths := by
    rw [hlengths, batchLengths, toList_four]
    rfl
  have hroom := ht.1.2.2.2
  refine ⟨fun threshold flush hbad => ?bad, ?report, fun threshold flush h1 h2 h3 h4 => ?stored⟩
  case bad =>
    have hnot : batchingOk threshold flush = false := by
      rw [← Bool.not_eq_true, batchingOk_iff]
      omega
    exact exec_refuses rfl ht (handleFrame_streamBatch ..) (by simp [groundStreamBatch, hnot])
  case report =>
    subst hbatchLengths
    exact exec_done rfl ht (handleFrame_streamBatch ..) rfl rfl ht.1
  case stored =>
    subst hbatchLengths
    have hground : groundStreamBatch (some (threshold, flush)) s = none := by
      simp [groundStreamBatch, batchingOk_iff.mpr ⟨⟨h1, h2⟩, h3, h4⟩]
    have hact := actStreamBatch_some (h := h) (threshold := threshold) (flush := flush) hroom
    refine ⟨fun hall => ?moved, fun n hlen hothers hc hroom2 => ?lone⟩
    case moved =>
      obtain ⟨b, hfold, hb⟩ := rebatchAll_moved (m := (flush : Int) - s.settings.flush) (by decide : heads.Nodup)
        (s := answered h .streamBatch .done (.batching threshold flush (batchLengths s))
          { s with settings := { s.settings with threshold := threshold, flush := flush } }) fun n _ => hall n
      refine ⟨b, ?_, fun n => ?_⟩
      · rw [hfold] at hact
        exact (exec_acts rfl ht (handleFrame_streamBatch ..) hground (by rw [hact]; exact ht.1.1)
          (by rw [hact]; exact quiet_congr rfl rfl ht.1.2.2.1)).trans (by rw [hact]; rfl)
      · rw [hb n, if_pos (mem_heads n)]
        exact ⟨fun hempty => if_pos hempty, fun hne => if_neg hne⟩
    case lone =>
      generalize hu : answered h .streamBatch .done (.batching threshold flush (batchLengths s))
        { s with settings := { s.settings with threshold := threshold, flush := flush } } = u at hact ⊢
      have hroomu : RoomFor 1 u := by
        rw [← hu]
        exact room_told (hroom2.congr rfl rfl rfl) _
      have hcu : u.out.congested = false := by
        have hlow : s.out.queue.length + 2 < s.settings.high := hroom2.2.resolve_left (by simp [hc])
        rw [← hu]
        refine (told_congested ..).trans ?_
        change (s.out.congested || decide (s.settings.high ≤ s.out.queue.length + 1)) = false
        rw [hc, decide_eq_false (by omega), Bool.or_false]
      have hbatches : u.batches = s.batches := by rw [← hu]; rfl
      have hthreshold : u.settings.threshold = threshold := by rw [← hu]; rfl
      have hne : s.batches[n].records ≠ [] := List.ne_nil_of_length_pos (Nat.lt_of_lt_of_le h1 hlen)
      have hoffer : rebatch ((flush : Int) - s.settings.flush) u n =
          told (.batch n .threshold s.batches[n].records) (setBatch n { records := [], expiry := none } u) := by
        rw [rebatch_full (by rw [hbatches, hthreshold]; exact hlen) (by rw [hbatches]; exact hne),
          offerBatch_joins hroomu hcu (by rw [← hu]; exact ht.1.2.1), hbatches]
      have hfold : heads.foldl (rebatch ((flush : Int) - s.settings.flush)) u =
          told (.batch n .threshold s.batches[n].records) (setBatch n { records := [], expiry := none } u) := by
        rw [← hoffer]
        refine foldl_only (by decide) (mem_heads n) (fun m hm => rebatch_empty ?_) fun m hm => rebatch_empty ?_
        · rw [hbatches]
          exact hothers m hm
        · rw [hoffer]
          change (u.batches.set n { records := [], expiry := none })[m].records = []
          rw [vget_set_ne _ (Ne.symm hm), hbatches]
          exact hothers m hm
      rw [hfold, ← hu] at hact
      refine (exec_acts rfl ht (handleFrame_streamBatch ..) hground (by rw [hact]; exact ht.1.1)
        (by rw [hact]; exact quiet_congr rfl rfl ht.1.2.2.1)).trans ?_
      rw [hact]
      rfl

/-- Settles O37: selectors are replaced one by one; a batch at the threshold or with its flush timer due is offered. -/
theorem streamCommandsAndFlushing : Obligations.StreamCommandsAndFlushing :=
  ⟨streamSelectReplacesASelector, streamBatchBringsBatchesUnderNewSettings, flushExpiryOffersTheBatch⟩

end Sys2Proof.Machine
end

section
/-! PROOFS. The station commands (chapter 4): O24, O45, and STN_LIST. -/

namespace Sys2Proof.Machine

-- One theorem at a time: side by side, the proofs ask for more threads than the check's memory limit has stacks for.
set_option Elab.async false

/-! ## What a search finds after a change of the table -/

section
variable {t : StationTable} {n : Nat} {f : StationRecord → StationRecord}

theorem bucketRecords_updateStation (n : Nat) (f : StationRecord → StationRecord) (t : StationTable) (m : Nat) :
    bucketRecords (updateStation n f t).buckets[bucketIndex m] = if bucketIndex n = bucketIndex m then
      (bucketRecords t.buckets[bucketIndex m]).map (updated n f) else bucketRecords t.buckets[bucketIndex m] := by
  rw [updateStation_bucket]
  split
  · exact bucketRecords_updateBucket ..
  · rfl

theorem findStation_updateStation (hf : ∀ r, (f r).number = r.number) (m : Nat) :
    findStation (updateStation n f t) m = if m = n then (findStation t n).map f else findStation t m := by
  have hmap : (fun r : StationRecord => r.number == m) ∘ updated n f = fun r => r.number == m :=
    funext fun r => by simp [updated_number hf]
  have hfound (g : StationRecord → StationRecord) (hg : ∀ r, r.number = m → updated n f r = g r) :
      ((bucketRecords t.buckets[bucketIndex m]).find? fun r => r.number == m).map (updated n f) = (findStation t m).map g := by
    refine Option.map_congr fun r hr => hg r ?_
    exact (findStation_some hr).2
  unfold findStation
  rw [bucketRecords_updateStation]
  by_cases hmn : m = n
  · subst hmn
    rw [if_pos rfl, if_pos rfl, List.find?_map, hmap]
    exact hfound f fun r hr => if_pos hr
  · rw [if_neg hmn]
    split
    · rw [List.find?_map, hmap, hfound id fun r hr => if_neg fun h => hmn (hr.symm.trans h), Option.map_id]
      rfl
    · rfl

theorem stationPosition_updateStation (hf : ∀ r, (f r).number = r.number) (m : Nat) :
    stationPosition (updateStation n f t) m = stationPosition t m := by
  have hmap : (fun r : StationRecord => r.number == m) ∘ updated n f = fun r => r.number == m :=
    funext fun r => by simp [updated_number hf]
  unfold stationPosition
  rw [bucketRecords_updateStation]
  split
  · rw [List.findIdx_map, hmap]
  · rfl

end

section
variable {t : StationTable} {r : StationRecord}

theorem findStation_placeRecord (ht : TableLaw t) (hnone : findStation t r.number = none) (m : Nat) :
    findStation (placeRecord r t) m = if m = r.number then some r else findStation t m := by
  conv_lhs => unfold findStation
  rw [placeRecord_bucket ht]
  by_cases hm : m = r.number
  · subst hm
    unfold findStation at hnone
    rw [if_pos rfl, if_pos rfl, List.find?_append, hnone]
    simp
  · rw [if_neg hm]
    split
    · rw [List.find?_append, List.find?_singleton, if_neg (by simpa using Ne.symm hm), Option.or_none]
      rfl
    · rfl

theorem stationPosition_placeRecord_self (ht : TableLaw t) (hnone : findStation t r.number = none) :
    stationPosition (placeRecord r t) r.number = (bucketRecords t.buckets[bucketIndex r.number]).length := by
  have hnot : ∀ x ∈ bucketRecords t.buckets[bucketIndex r.number], (x.number == r.number) = false := fun x hx => by
    simpa using findStation_eq_none_iff.mp hnone x hx
  unfold stationPosition
  rw [placeRecord_bucket ht, if_pos rfl, List.findIdx_append, List.findIdx_eq_length_of_false hnot]
  simp

theorem stationPosition_placeRecord_present (ht : TableLaw t) {m : Nat} (hm : (findStation t m).isSome) :
    stationPosition (placeRecord r t) m = stationPosition t m := by
  obtain ⟨x, hx⟩ := Option.isSome_iff_exists.mp hm
  obtain ⟨hmem, hnum⟩ := findStation_some hx
  have hlt : (bucketRecords t.buckets[bucketIndex m]).findIdx (fun r => r.number == m) < (bucketRecords t.buckets[bucketIndex m]).length :=
    List.findIdx_lt_length_of_exists ⟨x, hmem, by simpa using hnum⟩
  unfold stationPosition
  rw [placeRecord_bucket ht]
  split
  · rw [List.findIdx_append, if_pos hlt]
  · rfl

theorem placeRecord_free (r : StationRecord) (t : StationTable) : (placeRecord r t).free =
    if t.buckets[bucketIndex r.number].primary = none then t.free else t.free - 1 := by
  unfold placeRecord
  dsimp only
  cases t.buckets[bucketIndex r.number].primary <;> rfl

theorem hasRoom_iff (t : StationTable) (n : Nat) : hasRoom t n = true ↔ t.buckets[bucketIndex n].primary = none ∨ 0 < t.free := by
  simp only [hasRoom, Bool.or_eq_true, Option.isNone_iff_eq_none, decide_eq_true_eq]

end

/-! ## STN_PUT (R64, R65) -/

theorem handleFrame_stnPut (h : Header) (b : Body StnPutParams) (s : State) :
    handleFrame (.stnPut h b) s = command .stnPut h b groundStnPut (actStnPut h) s := rfl

section
variable {p : StnPutParams} {s : State}

theorem groundStnPut_present {r : StationRecord} (hok : stnPutOk p = true) (hr : findStation s.table p.station = some r) :
    groundStnPut p s = if 0 < r.refs ∧ r.pos ≠ p.pos then some .locked else none := by
  simp only [groundStnPut, hok, Bool.true_eq_false, if_false, hr]

theorem groundStnPut_absent (hok : stnPutOk p = true) (hr : findStation s.table p.station = none) :
    groundStnPut p s = if hasRoom s.table p.station then none else some .full := by
  simp only [groundStnPut, hok, Bool.true_eq_false, if_false, hr]

theorem putStation_present {r : StationRecord} {t : StationTable} (hr : findStation t p.station = some r) :
    putStation p t = updateStation p.station (putRecord p) t := by
  simp only [putStation, hr]

theorem putStation_absent {t : StationTable} (hr : findStation t p.station = none) : putStation p t = placeRecord (storedRecord p) t := by
  simp only [putStation, hr]

end

/-- Settles O24: the range test, the two grounds of the table, then the record replaced in place or placed last in its bucket. -/
theorem stnPutPlacesOrReplacesARecord : Obligations.StnPutPlacesOrReplacesARecord := by
  intro h p s b ht htable hb
  subst hb
  have hexec {t : StationTable} {new : Bool} {k : Nat} (hground : groundStnPut p s = none) (hput : putStation p s.table = t)
      (hnew : (findStation s.table p.station).isNone = new) (hk : stationPosition t p.station = k) :
      exec (.stnPut h (.ok p)) s = .next (answered h .stnPut .done (.stationPut new (p.station % 64) k) { s with table := t }) := by
    subst hput hnew hk
    exact exec_done rfl ht (handleFrame_stnPut ..) hground rfl (ht.1.congr rfl rfl rfl rfl rfl rfl rfl)
  refine ⟨fun hbad => exec_refuses rfl ht (handleFrame_stnPut ..) (by simp [groundStnPut, hbad]), fun hok =>
    ⟨fun r hr => ⟨fun hrefs hpos => ?locked, fun hfree => ?replaced⟩, fun hnone => ⟨fun hp hfree => ?full, fun hroom => ?placed⟩⟩⟩
  case locked =>
    exact exec_refuses rfl ht (handleFrame_stnPut ..) ((groundStnPut_present hok hr).trans (if_pos ⟨hrefs, hpos⟩))
  case replaced =>
    have hnot : ¬ (0 < r.refs ∧ r.pos ≠ p.pos) := by
      rintro ⟨hrefs, hpos⟩
      obtain hzero | heq := hfree
      · omega
      · exact hpos heq
    have hnum : ∀ x, (putRecord p x).number = x.number := fun _ => rfl
    refine ⟨updateStation p.station (putRecord p) s.table, hexec ((groundStnPut_present hok hr).trans (if_neg hnot))
      (putStation_present hr) (by rw [hr]; rfl) (stationPosition_updateStation hnum _), ?_, fun m hm => ?_, rfl,
      stationPosition_updateStation hnum⟩
    · rw [findStation_updateStation hnum, if_pos rfl, hr]
      rfl
    · rw [findStation_updateStation hnum, if_neg hm]
  case full =>
    have hnot : ¬ hasRoom s.table p.station = true := by
      rw [hasRoom_iff]
      rintro (hnone | hpos)
      · exact hp hnone
      · omega
    exact exec_refuses rfl ht (handleFrame_stnPut ..) ((groundStnPut_absent hok hnone).trans (if_neg hnot))
  case placed =>
    refine ⟨placeRecord (storedRecord p) s.table, hexec
      ((groundStnPut_absent hok hnone).trans (if_pos ((hasRoom_iff ..).mpr hroom)))
      (putStation_absent hnone) (by rw [hnone]; rfl) (stationPosition_placeRecord_self (r := storedRecord p) htable hnone), ?_,
      fun m hm => ?_, placeRecord_free .., stationPosition_placeRecord_self (r := storedRecord p) htable hnone,
      fun m hm => stationPosition_placeRecord_present htable hm⟩
    · exact (findStation_placeRecord (r := storedRecord p) htable hnone p.station).trans (if_pos rfl)
    · exact (findStation_placeRecord (r := storedRecord p) htable hnone m).trans (if_neg hm)

/-! ## STN_DELETE (R66) -/

theorem handleFrame_stnDelete (h : Header) (b : Body Nat) (s : State) :
    handleFrame (.stnDelete h b) s = command .stnDelete h b groundStnDelete (actStnDelete h) s := rfl

/-- In a bucket in order one record carries a number that a record carries. -/
theorem BucketLaw.length_without {k : Fin 64} {b : Bucket} (hb : BucketLaw k b) {r : StationRecord} (hr : r ∈ bucketRecords b) :
    ((bucketRecords b).filter fun x => x.number != r.number).length + 1 = (bucketRecords b).length := by
  obtain ⟨-, hdistinct, -⟩ := hb
  have hone : ((bucketRecords b).map fun r => r.number).count r.number = 1 :=
    List.count_eq_one_of_mem hdistinct (List.mem_map_of_mem hr)
  have hcount : (bucketRecords b).countP (fun x => x.number == r.number) = 1 := by
    rw [← hone, List.count, List.countP_map]
    rfl
  have hnot : (fun x : StationRecord => x.number != r.number) = fun x => decide ¬(x.number == r.number) = true :=
    funext fun x => by cases h : x.number == r.number <;> simp [bne, h]
  rw [← List.countP_eq_length_filter, hnot, List.length_eq_countP_add_countP (fun x => x.number == r.number) (l := bucketRecords b),
    hcount, Nat.add_comm]

theorem removeStation_free {t : StationTable} (ht : TableLaw t) {n : Nat} {r : StationRecord} (hr : findStation t n = some r) :
    (removeStation n t).free = if t.buckets[bucketIndex n].chain = [] then t.free else t.free + 1 := by
  obtain ⟨hmem, rfl⟩ := findStation_some hr
  have hlaw := ht.1 (bucketIndex r.number)
  have hlen := hlaw.length_without hmem
  have hchain := chain_length hlaw.2.2
  change t.free + (t.buckets[bucketIndex r.number].chain.length -
    (keepInBucket (fun x => x.number != r.number) t.buckets[bucketIndex r.number]).chain.length) = _
  rw [keepInBucket, bucketOf_chain_length]
  split
  · rename_i hnil
    rw [hnil] at hchain ⊢
    simp
  · rename_i hne
    have hpos : 0 < t.buckets[bucketIndex r.number].chain.length := List.length_pos_of_ne_nil hne
    omega

theorem stnDeleteRemovesARecord : Claim.StnDeleteRemovesARecord := by
  intro h m s b ht htable hb
  subst hb
  refine ⟨fun hbad => ?bad, fun hlo hhi => ?inRange⟩
  case bad =>
    have hnot : stationOk m = false := by
      rw [← Bool.not_eq_true, stationOk_iff]
      omega
    exact exec_refuses rfl ht (handleFrame_stnDelete ..) (by simp [groundStnDelete, hnot])
  case inRange =>
    have hok : stationOk m = true := (stationOk_iff m).mpr ⟨hlo, hhi⟩
    have hfound (r : StationRecord) (hr : findStation s.table m = some r) :
        groundStnDelete m s = if 0 < r.refs then some .locked else none := by
      simp only [groundStnDelete, hok, Bool.true_eq_false, if_false, hr]
    refine ⟨fun hnone => exec_refuses rfl ht (handleFrame_stnDelete ..) (by simp [groundStnDelete, hok, hnone]), fun r hr =>
      ⟨fun hrefs => exec_refuses rfl ht (handleFrame_stnDelete ..) ((hfound r hr).trans (if_pos hrefs)), fun hrefs => ?_⟩⟩
    have hself : (removeStation m s.table).buckets[bucketIndex m] =
        keepInBucket (fun x => x.number != m) s.table.buckets[bucketIndex m] := by
      rw [removeStation_bucket, if_pos rfl]
    refine ⟨removeStation m s.table, exec_done rfl ht (handleFrame_stnDelete ..)
      ((hfound r hr).trans (if_neg (by omega))) rfl (ht.1.congr rfl rfl rfl rfl rfl rfl rfl), ?_, fun hp => ?_, fun k hk => ?_,
      removeStation_free htable hr⟩
    · rw [hself, keepInBucket, bucketRecords_bucketOf]
    · rw [hself] at hp ⊢
      exact bucketRecords_eq_nil hp (bucketOf_primary hp)
    · rw [removeStation_bucket, if_neg (Ne.symm hk)]

/-! ## STN_AGE (R71) -/

theorem handleFrame_stnAge (h : Header) (b : Body Unit) (s : State) :
    handleFrame (.stnAge h b) s = command .stnAge h b (fun _ _ => none) (actStnAge h) s := rfl

theorem stnAgeRemovesUnusedLearnedRecords : Claim.StnAgeRemovesUnusedLearnedRecords := by
  intro h s ht htable
  refine ⟨ageTable s.table, exec_done rfl ht (handleFrame_stnAge ..) rfl rfl (ht.1.congr rfl rfl rfl rfl rfl rfl rfl), htable.age,
    fun k => ?_⟩
  rw [ageTable_bucket, ageBucket, bucketRecords_bucketOf]
  rfl

/-- Settles O45: a delete takes one record out of its bucket, aging the LEARNED ones that nothing uses. -/
theorem stationRecordsAreRemovedAndAged : Obligations.StationRecordsAreRemovedAndAged :=
  ⟨stnDeleteRemovesARecord, stnAgeRemovesUnusedLearnedRecords⟩

/-! ## STN_LIST (R68) -/

theorem handleFrame_stnList (h : Header) (b : Body StnListParams) (s : State) :
    handleFrame (.stnList h b) s = command .stnList h b groundStnList (actStnList h) s := rfl

theorem drop_zipIdx {α : Type} (l : List α) (n i : Nat) :
    (l.zipIdx i).drop n = (l.zipIdx i).filter fun x => decide (i + n ≤ x.2) := by
  induction l generalizing n i with
  | nil => simp
  | cons a l ih =>
    cases n with
    | zero =>
      rw [List.drop_zero, eq_comm, List.filter_eq_self]
      intro x hx
      simpa using List.le_snd_of_mem_zipIdx hx
    | succ n =>
      rw [List.zipIdx_cons, List.drop_succ_cons, ih, List.filter_cons, if_neg (by simp)]
      congr 1
      funext x
      exact decide_eq_decide.mpr (by omega)

theorem toList_eq_map {α : Type} {n : Nat} (v : Vector α n) : v.toList = (List.finRange n).map fun k => v[k] :=
  List.ext_getElem (by simp) fun i _ _ => by simp

theorem toList_zipIdx {α : Type} {n : Nat} (v : Vector α n) : v.toList.zipIdx = (List.finRange n).map fun k => (v[k], k.val) :=
  List.ext_getElem (by simp) fun i _ _ => by simp

theorem flatMap_filter {α β : Type} (p : α → Bool) (f : α → List β) (l : List α) :
    (l.filter p).flatMap f = l.flatMap fun a => if p a then f a else [] := by
  induction l with
  | nil => rfl
  | cons a l ih =>
    rw [List.filter_cons, List.flatMap_cons]
    split <;> simp [ih]

theorem summariesFrom_eq (t : StationTable) (bucket position : Nat) : summariesFrom t bucket position =
    (List.finRange 64).flatMap (fun k =>
      ((bucketRecords t.buckets[k]).zipIdx.filter fun x =>
        decide (bucket < k.val ∨ bucket = k.val ∧ position ≤ x.2)).map fun x =>
          { number := x.1.number
            origin := x.1.origin
            refs := x.1.refs
            current := x.1.current
            previous := x.1.previous
            bucket := k.val
            position := x.2 }) := by
  unfold summariesFrom
  rw [drop_zipIdx, flatMap_filter, toList_zipIdx, List.flatMap_map]
  refine congrArg (fun f => List.flatMap f (List.finRange 64)) (funext fun k => ?_)
  dsimp only
  unfold bucketSummaries
  rw [drop_zipIdx]
  by_cases hbefore : bucket ≤ k.val
  · rw [if_pos (by simpa using hbefore)]
    congr 1
    refine congrArg (fun p => List.filter p _) (funext fun x => decide_eq_decide.mpr ?_)
    split <;> omega
  · have hnone : (fun x : StationRecord × Nat => decide (bucket < k.val ∨ bucket = k.val ∧ position ≤ x.2)) = fun _ => false :=
      funext fun x => decide_eq_false (by omega)
    rw [if_neg (by simpa using hbefore), hnone]
    simp

theorem length_by_origin (l : List StationRecord) :
    (l.filter fun r => r.origin == .stored).length + (l.filter fun r => r.origin == .learned).length = l.length := by
  induction l with
  | nil => rfl
  | cons r l ih =>
    obtain ⟨number, origin⟩ := r
    cases origin <;> simp_all <;> omega

theorem stnListReportsTheTable : Claim.StnListReportsTheTable := by
  intro h p s walk ht hwalk
  subst hwalk
  refine ⟨fun hbad => exec_refuses rfl ht (handleFrame_stnList ..) (if_neg (by omega)), fun hb hp => ?_, length_by_origin _⟩
  have hlist : listStations s.table p.bucket p.position =
      { records := (allRecords s.table).length
        stored := ((allRecords s.table).filter fun r => r.origin == .stored).length
        learned := ((allRecords s.table).filter fun r => r.origin == .learned).length
        primaries := ((List.finRange 64).filter fun k => s.table.buckets[k].primary.isSome).length
        free := s.table.free
        summaries := (summariesFrom s.table p.bucket p.position).take 12
        continuation := ((summariesFrom s.table p.bucket p.position).drop 12).head?.map fun x => (x.bucket, x.position) } := by
    unfold listStations
    rw [toList_eq_map, List.filter_map, List.length_map]
    rfl
  rw [← summariesFrom_eq, ← hlist]
  exact exec_done rfl ht (handleFrame_stnList ..) (if_pos ⟨hb, hp⟩) rfl ht.1

end Sys2Proof.Machine
end

section
/-! PROOFS. The tide page set (chapter 3): searches for a page, the tide state, and the page commands: O42, O43, O44. -/

namespace Sys2Proof.Machine

-- One theorem at a time: side by side, the proofs ask for more threads than the check's memory limit has stacks for.
set_option Elab.async false

/-! ## Searches (R45, R46, R55) -/

theorem find?_eq_of_unique {α : Type} {l : List α} {p : α → Bool} {a : α} (ha : a ∈ l) (hp : p a = true)
    (h : ∀ b ∈ l, p b = true → b = a) : l.find? p = some a := by
  cases hf : l.find? p with
  | none => exact absurd hp (List.find?_eq_none.mp hf a ha)
  | some b => exact congrArg some (h b (List.mem_of_find?_eq_some hf) (List.find?_some hf))

/-- The first of an ascending list that passes a test. -/
theorem find?_eq_first {m : Nat} {l : List (Fin m)} {p : Fin m → Bool} {k : Fin m} (hl : l.Pairwise (· < ·)) (hk : k ∈ l)
    (hp : p k = true) (h : ∀ j < k, ¬ p j = true) : l.find? p = some k := by
  obtain ⟨l₁, l₂, rfl⟩ := List.append_of_mem hk
  have hbefore : ∀ j ∈ l₁, j < k := fun j hj => (List.pairwise_append.mp hl).2.2 j hj k (List.mem_cons_self ..)
  rw [List.find?_append, List.find?_eq_none.mpr fun j hj => h j (hbefore j hj), List.find?_cons_of_pos hp]
  rfl

/-- A slot's page is found among the pages that the slots hold. -/
theorem mem_heldPages {s : State} {k : PageSlotId} {p : Page} :
    (k, p) ∈ (pageSlots.filterMap fun k => (slotPage s.pages.slots[k]).map fun p => (k, p)) ↔ slotPage s.pages.slots[k] = some p := by
  simp only [List.mem_filterMap, Option.map_eq_some_iff, Prod.mk.injEq]
  constructor
  · rintro ⟨j, -, q, hq, rfl, rfl⟩
    exact hq
  · exact fun h => ⟨k, mem_pageSlots k, p, h, rfl, rfl⟩

theorem findPage_eq_none {s : State} {n : Nat} :
    findPage s n = none ↔ ∀ (j : PageSlotId) (q : Page), slotPage s.pages.slots[j] = some q → q.number ≠ n := by
  simp only [findPage, List.find?_eq_none, Prod.forall, mem_heldPages, beq_iff_eq, ne_eq]

theorem findPage_eq_some {s : State} {k : PageSlotId} {p : Page} (hp : slotPage s.pages.slots[k] = some p)
    (h : ∀ (j : PageSlotId) (x : Page), slotPage s.pages.slots[j] = some x → x.number = p.number → j = k) :
    findPage s p.number = some (k, p) := by
  refine find?_eq_of_unique (mem_heldPages.mpr hp) (beq_self_eq_true _) fun ⟨j, q⟩ hq hnum => ?_
  have hheld := mem_heldPages.mp hq
  obtain rfl := h j q hheld (beq_iff_eq.mp hnum)
  rw [Option.some.inj (hheld.symm.trans hp)]

theorem pageContains_iff {p : Page} {t : Nat} : pageContains p t = true ↔ p.start ≤ t ∧ t < p.start + 1000 * p.length := by
  simp only [pageContains, Bool.and_eq_true, decide_eq_true_eq]
  unfold pageEnd
  omega

theorem mem_readyPages {slots : Vector PageSlot 3} {p : Page} :
    p ∈ slots.toList.filterMap readyPage ↔ ∃ k : PageSlotId, slots[k] = .ready p := by
  rw [toList_eq_map]
  simp only [List.mem_filterMap, List.mem_map, List.mem_finRange, true_and, exists_exists_eq_and, readyPage_eq_some]

theorem pageAt_eq_none {slots : Vector PageSlot 3} {t : Nat} : pageAt slots t = none ↔
    ∀ (j : PageSlotId) (q : Page), slots[j] = .ready q → t < q.start ∨ q.start + 1000 * q.length ≤ t := by
  simp only [pageAt, List.find?_eq_none, mem_readyPages, pageContains_iff, forall_exists_index]
  rw [forall_comm]
  refine forall_congr' fun j => forall_congr' fun q => imp_congr_right fun _ => ?_
  omega

theorem pageAt_eq_some {slots : Vector PageSlot 3} {t : Nat} {k : PageSlotId} {p : Page} (hk : slots[k] = .ready p)
    (hp : p.start ≤ t ∧ t < p.start + 1000 * p.length)
    (h : ∀ (j : PageSlotId) (q : Page), slots[j] = .ready q → q.start ≤ t ∧ t < q.start + 1000 * q.length → q = p) :
    pageAt slots t = some p := by
  refine find?_eq_of_unique (mem_readyPages.mpr ⟨k, hk⟩) (pageContains_iff.mpr hp) fun q hq hc => ?_
  obtain ⟨j, hj⟩ := mem_readyPages.mp hq
  exact h j q hj (pageContains_iff.mp hc)

theorem pageAt_isSome {slots : Vector PageSlot 3} {t : Nat} {k : PageSlotId} {p : Page} (hk : slots[k] = .ready p)
    (hp : p.start ≤ t ∧ t < p.start + 1000 * p.length) : ∃ q, pageAt slots t = some q := by
  rw [← Option.isSome_iff_exists, Option.isSome_iff_ne_none]
  intro hnone
  have := pageAt_eq_none.mp hnone k p hk
  omega

/-- Pages that contain one time overlap. -/
theorem pagesOverlap_of_contain {p q : Page} {t : Nat} (hp : p.start ≤ t ∧ t < p.start + 1000 * p.length)
    (hq : q.start ≤ t ∧ t < q.start + 1000 * q.length) : pagesOverlap p q = true := by
  simp only [pagesOverlap, Bool.and_eq_true, decide_eq_true_eq]
  unfold pageEnd
  omega

/-- Of the pages in order one contains the time. -/
theorem PageLaw.unique {s : State} (hs : PageLaw s) {t : Nat} {k : PageSlotId} {p : Page} (hk : s.pages.slots[k] = .ready p)
    (hp : p.start ≤ t ∧ t < p.start + 1000 * p.length) {j : PageSlotId} {q : Page} (hj : s.pages.slots[j] = .ready q)
    (hq : q.start ≤ t ∧ t < q.start + 1000 * q.length) : j = k ∧ q = p := by
  by_cases hjk : j = k
  · subst hjk
    exact ⟨rfl, PageSlot.ready.inj (hj.symm.trans hk)⟩
  · have hnot := hs j k hjk q p hj hk
    rw [pagesOverlap_of_contain hq hp] at hnot
    exact Bool.noConfusion hnot

theorem PageLaw.pageAt_eq {s : State} (hs : PageLaw s) {t : Nat} {k : PageSlotId} {p : Page} (hk : s.pages.slots[k] = .ready p)
    (hp : p.start ≤ t ∧ t < p.start + 1000 * p.length) : pageAt s.pages.slots t = some p :=
  pageAt_eq_some hk hp fun _ _ hj hq => (hs.unique hk hp hj hq).2

/-! ## The tide state (R51) -/

theorem clockRuns_eq_true {s : State} : clockRuns s = true ↔ s.clock.state ≠ .unset := by
  rw [← Bool.not_eq_false, clockRuns_eq_false]

section
variable {s : State}

theorem evalTide_unset (h : s.clock.state = .unset) : evalTide s = { s with pages := { s.pages with tide := .noTime } } := by
  unfold evalTide
  rw [if_pos (clockRuns_eq_false.mpr h)]
  rfl

theorem evalTide_stays_unset (h : s.clock.state = .unset) (ht : s.pages.tide = .noTime) : evalTide s = s := by
  rw [evalTide_unset h, ← ht]

theorem evalTide_runs (h : s.clock.state ≠ .unset) : evalTide s = match pageAt s.pages.slots (now s) with
    | some p =>
      if s.pages.tide = .available then s
      else offerNotice (.pageAvailable p.number p.start p.length) (setTide .available s)
    | none =>
      if s.pages.tide = .lapsed then s
      else raise 5 (offerNotice .pageLapsed (setTide .lapsed s)) := by
  unfold evalTide
  rw [if_neg (by simp [clockRuns_eq_true.mpr h])] <;> rfl

theorem evalTide_stays_available {p : Page} (h : s.clock.state ≠ .unset) (hp : pageAt s.pages.slots s.clock.time = some p)
    (ht : s.pages.tide = .available) : evalTide s = s := by
  rw [evalTide_runs h]
  change (match pageAt s.pages.slots s.clock.time with | some _ => _ | none => _) = s
  rw [hp]
  exact if_pos ht

theorem evalTide_available {p : Page} (h : s.clock.state ≠ .unset) (hp : pageAt s.pages.slots s.clock.time = some p)
    (ht : s.pages.tide ≠ .available) : evalTide s =
      offerNotice (.pageAvailable p.number p.start p.length) { s with pages := { s.pages with tide := .available } } := by
  rw [evalTide_runs h]
  change (match pageAt s.pages.slots s.clock.time with | some _ => _ | none => _) = _
  rw [hp]
  exact if_neg ht

theorem evalTide_stays_lapsed (h : s.clock.state ≠ .unset) (hp : pageAt s.pages.slots s.clock.time = none)
    (ht : s.pages.tide = .lapsed) : evalTide s = s := by
  rw [evalTide_runs h]
  change (match pageAt s.pages.slots s.clock.time with | some _ => _ | none => _) = s
  rw [hp]
  exact if_pos ht

theorem evalTide_lapsed (h : s.clock.state ≠ .unset) (hp : pageAt s.pages.slots s.clock.time = none)
    (ht : s.pages.tide ≠ .lapsed) : evalTide s =
      raise 5 (offerNotice .pageLapsed { s with pages := { s.pages with tide := .lapsed } }) := by
  rw [evalTide_runs h]
  change (match pageAt s.pages.slots s.clock.time with | some _ => _ | none => _) = _
  rw [hp]
  exact if_neg ht

end

/-! ## PAGE_OPEN and PAGE_ADD (R46, R47) -/

theorem handleFrame_pageOpen (h : Header) (b : Body PageOpenParams) (s : State) :
    handleFrame (.pageOpen h b) s = command .pageOpen h b groundPageOpen (actPageOpen h) s := rfl

theorem pageNumberOk_iff {n : Nat} : pageNumberOk n = true ↔ 1 ≤ n ∧ n ≤ 255 := by simp [pageNumberOk, between]

/-- The range test of PAGE_OPEN. -/
theorem pageOpenOk_iff {p : PageOpenParams} :
    (pageNumberOk p.number && between 3600 259200 p.length && decide (p.start + p.length * 1000 ≤ Config.maxTime)) = true ↔
      1 ≤ p.number ∧ p.number ≤ 255 ∧ 3600 ≤ p.length ∧ p.length ≤ 259200 ∧ p.start + 1000 * p.length ≤ 281474976710655 := by
  simp only [pageNumberOk, between, Bool.and_eq_true, decide_eq_true_eq]
  unfold Config.maxTime
  omega

theorem slotPage_eq_none {x : PageSlot} : slotPage x = none ↔ x = .empty := by cases x <;> simp [slotPage]

theorem emptySlot_eq_none {s : State} : emptySlot s = none ↔ ∀ k : PageSlotId, s.pages.slots[k] ≠ .empty := by
  simp only [emptySlot, List.find?_eq_none, Option.isNone_iff_eq_none, slotPage_eq_none, mem_pageSlots, forall_const, ne_eq]

theorem emptySlot_eq_some {s : State} {k : PageSlotId} (hk : s.pages.slots[k] = .empty)
    (h : ∀ j < k, s.pages.slots[j] ≠ .empty) : emptySlot s = some k := by
  have hiff (j : PageSlotId) : (slotPage s.pages.slots[j]).isNone = true ↔ s.pages.slots[j] = .empty := by
    rw [Option.isNone_iff_eq_none, slotPage_eq_none]
  exact find?_eq_first (by decide) (mem_pageSlots k) ((hiff k).mpr hk) fun j hj hempty => h j hj ((hiff j).mp hempty)

theorem groundPageOpen_passed {p : PageOpenParams} {s : State} (hok : 1 ≤ p.number ∧ p.number ≤ 255 ∧ 3600 ≤ p.length ∧
    p.length ≤ 259200 ∧ p.start + 1000 * p.length ≤ 281474976710655) : groundPageOpen p s =
      if (findPage s p.number).isSome then some .existing else if (emptySlot s).isNone then some .full else none := by
  unfold groundPageOpen
  rw [pageOpenOk_iff.mpr hok, if_neg (by decide)]

theorem pageOpenFillsTheLowestEmptySlot : Claim.PageOpenFillsTheLowestEmptySlot := by
  intro h p s ok ht hok
  refine ⟨fun hbad => ?bad, fun hp hex => ?existing, fun hp hnone => ?new⟩
  case bad =>
    rw [hok, ← pageOpenOk_iff, Bool.not_eq_true] at hbad
    exact exec_refuses rfl ht (handleFrame_pageOpen ..) (if_pos hbad)
  case existing =>
    obtain ⟨k, q, hq, hnum⟩ := hex
    have hfound : (findPage s p.number).isSome = true := by
      rw [Option.isSome_iff_ne_none]
      exact fun hnone => findPage_eq_none.mp hnone k q hq hnum
    refine exec_refuses rfl ht (handleFrame_pageOpen ..) ?_
    rw [groundPageOpen_passed (hok.mp hp), if_pos hfound]
  case new =>
    have hground : groundPageOpen p s = if (emptySlot s).isNone then some .full else none := by
      rw [groundPageOpen_passed (hok.mp hp), findPage_eq_none.mpr hnone]
      rfl
    refine ⟨fun hfull => exec_refuses rfl ht (handleFrame_pageOpen ..) ?_, fun k hk hlow => ?_⟩
    · rw [hground, emptySlot_eq_none.mpr hfull]
      rfl
    · have hempty := emptySlot_eq_some hk hlow
      refine exec_done rfl ht (handleFrame_pageOpen ..) (by rw [hground, hempty]; rfl) ?_
        (ht.1.congr rfl rfl rfl rfl rfl rfl rfl)
      unfold actPageOpen
      rw [hempty]
      rfl

theorem handleFrame_pageAdd (h : Header) (b : Body PageAddParams) (s : State) :
    handleFrame (.pageAdd h b) s = command .pageAdd h b groundPageAdd (actPageAdd h) s := rfl

/-- The range test of PAGE_ADD. -/
theorem pageAddOk_iff {p : PageAddParams} :
    (pageNumberOk p.number && between 1 8 p.terms.length && p.terms.all constituentOk) = true ↔
      1 ≤ p.number ∧ p.number ≤ 255 ∧ 1 ≤ p.terms.length ∧ p.terms.length ≤ 8 ∧ ∀ c ∈ p.terms,
        (1 ≤ c.code ∧ c.code ≤ 255) ∧ c.species ≤ 3 ∧ c.amplitude ≤ 200000 ∧ (0 ≤ c.argument ∧ c.argument ≤ 3599999) ∧
          (0 ≤ c.speed ∧ c.speed ≤ 600000) := by
  simp only [pageNumberOk, constituentOk, between, within, Bool.and_eq_true, decide_eq_true_eq, List.all_eq_true, and_assoc]

theorem groundPageAdd_found {p : PageAddParams} {s : State} {k : PageSlotId} {q : Page}
    (hok : (pageNumberOk p.number && between 1 8 p.terms.length && p.terms.all constituentOk) = true)
    (hf : findPage s p.number = some (k, q)) : groundPageAdd p s =
      if slotReady s k then some .wrongState else if 24 < q.terms.length + p.terms.length then some .full else none := by
  unfold groundPageAdd
  rw [hok, hf, if_neg (by decide)]

theorem slotReady_of_ready {s : State} {k : PageSlotId} {q : Page} (h : s.pages.slots[k] = .ready q) : slotReady s k = true := by
  rw [slotReady, h]
  rfl

theorem slotReady_of_filling {s : State} {k : PageSlotId} {q : Page} (h : s.pages.slots[k] = .filling q) : slotReady s k = false := by
  rw [slotReady, h]
  rfl

theorem pageAddAppendsConstituents : Claim.PageAddAppendsConstituents := by
  intro h p s ok ht hok
  rw [← pageAddOk_iff] at hok
  refine ⟨fun hbad => ?bad, fun hp hnone => ?absent, fun k q hp hnum huniq => ?present⟩
  case bad =>
    rw [hok, Bool.not_eq_true] at hbad
    exact exec_refuses rfl ht (handleFrame_pageAdd ..) (if_pos hbad)
  case absent =>
    refine exec_refuses rfl ht (handleFrame_pageAdd ..) ?_
    unfold groundPageAdd
    rw [hok.mp hp, findPage_eq_none.mpr hnone, if_neg (by decide)]
  case present =>
    have hground (hheld : slotPage s.pages.slots[k] = some q) := groundPageAdd_found (hok.mp hp)
      (hnum ▸ findPage_eq_some hheld fun j x hx hn => huniq j x hx (hn.trans hnum))
    refine ⟨fun hready => ?_, fun hfill hlong => ?_, fun hfill hshort => ?_⟩
    · refine exec_refuses rfl ht (handleFrame_pageAdd ..) ((hground (by rw [hready]; rfl)).trans ?_)
      exact if_pos (slotReady_of_ready hready)
    · refine exec_refuses rfl ht (handleFrame_pageAdd ..) ((hground (by rw [hfill]; rfl)).trans ?_)
      rw [slotReady_of_filling hfill, if_neg (by decide), if_pos hlong]
    · have hheld : slotPage s.pages.slots[k] = some q := by rw [hfill]; rfl
      refine exec_done rfl ht (handleFrame_pageAdd ..) ((hground hheld).trans ?_) ?_ (ht.1.congr rfl rfl rfl rfl rfl rfl rfl)
      · rw [slotReady_of_filling hfill, if_neg (by decide), if_neg (by omega)]
      · unfold actPageAdd
        rw [← hnum, findPage_eq_some hheld fun j x hx hn => huniq j x hx (hn.trans hnum)]
        dsimp only
        rw [List.length_append]
        rfl

/-- Settles O42: the grounds of R46 and R47 in order, then the slot that is filled. -/
theorem pagesAreOpenedAndFilled : Obligations.PagesAreOpenedAndFilled :=
  ⟨pageOpenFillsTheLowestEmptySlot, pageAddAppendsConstituents⟩

/-! ## PAGE_COMMIT (R48, R51) -/

theorem handleFrame_pageCommit (h : Header) (b : Body Nat) (s : State) :
    handleFrame (.pageCommit h b) s = command .pageCommit h b groundPageCommit (actPageCommit h) s := rfl

theorem pageNumberOk_eq_false {m : Nat} (h : m = 0 ∨ 255 < m) : pageNumberOk m = false := by
  rw [← Bool.not_eq_true, pageNumberOk_iff]
  omega

theorem pageCommitNeedsAPage : Claim.PageCommitNeedsAPage := by
  intro h s m ht
  refine ⟨fun hbad => ?bad, fun hlo hhi hnone => ?absent⟩
  case bad => exact exec_refuses rfl ht (handleFrame_pageCommit ..) (if_pos (pageNumberOk_eq_false hbad))
  case absent =>
    refine exec_refuses rfl ht (handleFrame_pageCommit ..) ?_
    unfold groundPageCommit
    rw [pageNumberOk_iff.mpr ⟨hlo, hhi⟩, findPage_eq_none.mpr hnone, if_neg (by decide)]

theorem pageCommittable_iff {s : State} {p : Page} : pageCommittable s p = true ↔
    p.terms ≠ [] ∧ (p.terms.map fun c => c.code).Nodup ∧ (s.clock.state = .unset ∨ s.clock.time < p.start + 1000 * p.length) := by
  have htime : (clockRuns s && decide (pageEnd p ≤ now s)) = false ↔
      s.clock.state = .unset ∨ s.clock.time < p.start + 1000 * p.length := by
    rw [Bool.and_eq_false_iff, clockRuns_eq_false, decide_eq_false_iff_not]
    refine or_congr_right ?_
    unfold pageEnd now
    omega
  simp only [pageCommittable, Bool.and_eq_true, Bool.not_eq_true', htime, distinct_iff, List.isEmpty_eq_false_iff, and_assoc, ne_eq]

theorem overlapsReady_eq_true {s : State} {p : Page} :
    overlapsReady s p = true ↔ ∃ (j : PageSlotId) (q : Page), s.pages.slots[j] = .ready q ∧ pagesOverlap p q = true := by
  simp only [overlapsReady, List.any_eq_true, mem_readyPages]
  exact ⟨fun ⟨q, ⟨j, hj⟩, hq⟩ => ⟨j, q, hj, hq⟩, fun ⟨j, q, hj, hq⟩ => ⟨q, ⟨j, hj⟩, hq⟩⟩

section
variable {s : State} {k : PageSlotId} {p : Page}

theorem groundPageCommit_found (hn : 1 ≤ p.number ∧ p.number ≤ 255) (hf : findPage s p.number = some (k, p)) :
    groundPageCommit p.number s = if slotReady s k then some .wrongState
      else if pageCommittable s p = false then some .badValue
      else if overlapsReady s p then some .overlap
      else none := by
  unfold groundPageCommit
  rw [pageNumberOk_iff.mpr hn, hf, if_neg (by decide)]

/-- What is READY beside the slot that a page was put into. -/
theorem ready_setSlot {x : PageSlot} {j : PageSlotId} {q : Page} (h : (s.pages.slots.set k x)[j] = .ready q) :
    x = .ready q ∨ s.pages.slots[j] = .ready q := by
  rw [vget_set] at h
  split at h
  · exact .inl h
  · exact .inr h

end

theorem pageCommitMakesAPageReady : Claim.PageCommitMakesAPageReady := by
  intro h s t k p ht hlo hhi huniq heq
  have hfound (hheld : slotPage s.pages.slots[k] = some p) := findPage_eq_some hheld huniq
  refine ⟨fun hready => ?wrongState, fun hfill => ?filling⟩
  case wrongState =>
    refine exec_refuses rfl ht (handleFrame_pageCommit ..) ?_
    rw [groundPageCommit_found ⟨hlo, hhi⟩ (hfound (by rw [hready]; rfl)), if_pos (slotReady_of_ready hready)]
  case filling =>
    have hf := hfound (by rw [hfill]; rfl)
    have hground : groundPageCommit p.number s =
        if pageCommittable s p = false then some .badValue else if overlapsReady s p then some .overlap else none := by
      rw [groundPageCommit_found ⟨hlo, hhi⟩ hf, slotReady_of_filling hfill, if_neg (by decide)]
    refine ⟨fun hbad => ?bad, fun hterms hcodes htime => ?inOrder⟩
    case bad =>
      refine exec_refuses rfl ht (handleFrame_pageCommit ..) (hground.trans (if_pos ?_))
      rw [← Bool.not_eq_true, pageCommittable_iff]
      rintro ⟨hterms, hcodes, htime⟩
      obtain hbad | hbad | ⟨hrun, hbad⟩ := hbad
      · exact hterms hbad
      · exact hbad hcodes
      · obtain htime | htime := htime
        · exact hrun htime
        · omega
    case inOrder =>
      have hok : ¬ pageCommittable s p = false := by
        rw [Bool.not_eq_false, pageCommittable_iff]
        exact ⟨hterms, hcodes, htime⟩
      refine ⟨fun hover => exec_refuses rfl ht (handleFrame_pageCommit ..) ?_, fun hapart => ?ready⟩
      · rw [hground, if_neg hok, if_pos (overlapsReady_eq_true.mpr hover)]
      case ready =>
        have hnone : groundPageCommit p.number s = none := by
          rw [hground, if_neg hok, if_neg]
          rw [overlapsReady_eq_true]
          rintro ⟨j, q, hj, hq⟩
          rw [hapart j q hj] at hq
          exact Bool.noConfusion hq
        have hatt : Attentive t := heq ▸ ht.1.congr rfl rfl rfl rfl rfl rfl rfl
        have hself : t.pages.slots[k] = .ready p := by
          rw [heq]
          exact vget_set_self ..
        have hclock : t.clock = s.clock := by rw [heq]
        have htide : t.pages.tide = s.pages.tide := by rw [heq]
        have hslots {j : PageSlotId} {q : Page} (hj : t.pages.slots[j] = .ready q) : q = p ∨ s.pages.slots[j] = .ready q := by
          rw [heq] at hj
          exact (ready_setSlot hj).imp_left fun h => (PageSlot.ready.inj h).symm
        have hact : actPageCommit h p.number s = evalTide (answered h .pageCommit .done .none t) := by
          unfold actPageCommit
          rw [hf, ← done_room hatt.2.2.2, heq]
          rfl
        have hstays (he : evalTide (answered h .pageCommit .done .none t) = answered h .pageCommit .done .none t) :
            exec (.pageCommit h (.ok p.number)) s = .next (answered h .pageCommit .done .none t) :=
          exec_done rfl ht (handleFrame_pageCommit ..) hnone (hact.trans (he.trans (done_room hatt.2.2.2).symm)) hatt
        refine ⟨fun hunset htn => hstays ?_, fun hrun htl hstart hroom => ?_, fun hrun hstart htl hout => hstays ?_,
          fun hrun hta ⟨j, q, hj, hin⟩ => hstays ?_⟩
        · exact evalTide_stays_unset (by exact hclock ▸ hunset) (htide.trans htn)
        · have hin : p.start ≤ t.clock.time ∧ t.clock.time < p.start + 1000 * p.length := by
            rw [hclock]
            exact ⟨hstart, htime.resolve_left hrun⟩
          have hpage : pageAt t.pages.slots t.clock.time = some p := pageAt_eq_some hself hin fun j q hj hq => by
            obtain hqp | hj := hslots hj
            · exact hqp
            · have hnot := hapart j q hj
              rw [pagesOverlap_of_contain hin hq] at hnot
              exact Bool.noConfusion hnot
          have hroomt : RoomFor 1 (answered h .pageCommit .done .none t) := room_told (heq ▸ hroom.congr rfl rfl rfl) _
          have havail : actPageCommit h p.number s = offerNotice (.pageAvailable p.number p.start p.length)
              (setTide .available (answered h .pageCommit .done .none t)) :=
            hact.trans (evalTide_available (by exact hclock ▸ hrun) hpage (by
              change t.pages.tide ≠ _
              rw [htide, htl]
              decide))
          refine (exec_notes rfl ht (handleFrame_pageCommit ..) hnone havail (by rw [heq]; rfl) (by rw [heq]; rfl)
            (by rw [heq]; rfl) (by rw [heq]; rfl) (hroomt.congr rfl rfl rfl)).trans rfl
        · refine evalTide_stays_lapsed (by exact hclock ▸ hrun) (pageAt_eq_none.mpr fun j q hj => ?_) (htide.trans htl)
          change t.pages.slots[j] = _ at hj
          change t.clock.time < _ ∨ _ ≤ t.clock.time
          rw [hclock]
          obtain rfl | hj := hslots hj
          · exact .inl hstart
          · exact hout j q hj
        · have hjk : t.pages.slots[j] = .ready q := by
            rw [heq]
            refine (vget_set_ne _ (fun hkj => ?_) _).trans hj
            rw [← hkj, hfill] at hj
            exact PageSlot.noConfusion hj
          obtain ⟨x, hx⟩ := pageAt_isSome hjk (hclock ▸ hin)
          exact evalTide_stays_available (by exact hclock ▸ hrun) hx (htide.trans hta)

/-! ## PAGE_DROP (R49, R51) -/

theorem handleFrame_pageDrop (h : Header) (b : Body Nat) (s : State) :
    handleFrame (.pageDrop h b) s = command .pageDrop h b groundPageDrop (actPageDrop h) s := rfl

theorem pageDropEmptiesTheSlot : Claim.PageDropEmptiesTheSlot := by
  intro h s t k p ht hlaw
  refine ⟨fun m hbad => ?bad, fun m hlo hhi hnone => ?absent, fun hlo hhi huniq heq => ?drops⟩
  case bad => exact exec_refuses rfl ht (handleFrame_pageDrop ..) (if_pos (pageNumberOk_eq_false hbad))
  case absent =>
    refine exec_refuses rfl ht (handleFrame_pageDrop ..) ?_
    unfold groundPageDrop
    rw [pageNumberOk_iff.mpr ⟨hlo, hhi⟩, findPage_eq_none.mpr hnone, if_neg (by decide)]
    rfl
  case drops =>
    have hatt : Attentive t := heq ▸ ht.1.congr rfl rfl rfl rfl rfl rfl rfl
    have hclock : t.clock = s.clock := by rw [heq]
    have htide : t.pages.tide = s.pages.tide := by rw [heq]
    have hslots {j : PageSlotId} {q : Page} (hj : t.pages.slots[j] = .ready q) : j ≠ k ∧ s.pages.slots[j] = .ready q := by
      rw [heq] at hj
      change (s.pages.slots.set k .empty)[j] = _ at hj
      rw [vget_set] at hj
      split at hj
      · exact PageSlot.noConfusion hj
      · rename_i hne
        exact ⟨Ne.symm hne, hj⟩
    have hother {j : PageSlotId} (hj : j ≠ k) : t.pages.slots[j] = s.pages.slots[j] := by
      rw [heq]
      exact vget_set_ne _ (Ne.symm hj) _
    have hdrop (hheld : slotPage s.pages.slots[k] = some p) : groundPageDrop p.number s = none ∧
        actPageDrop h p.number s = if slotReady s k then evalTide (answered h .pageDrop .done .none t)
          else answered h .pageDrop .done .none t := by
      have hf := findPage_eq_some hheld huniq
      unfold groundPageDrop actPageDrop
      rw [hf, pageNumberOk_iff.mpr ⟨hlo, hhi⟩, ← done_room hatt.2.2.2, heq]
      exact ⟨rfl, rfl⟩
    have hstays (hheld : slotPage s.pages.slots[k] = some p) (he : slotReady s k = true →
        evalTide (answered h .pageDrop .done .none t) = answered h .pageDrop .done .none t) :
        exec (.pageDrop h (.ok p.number)) s = .next (answered h .pageDrop .done .none t) := by
      obtain ⟨hg, ha⟩ := hdrop hheld
      refine exec_done rfl ht (handleFrame_pageDrop ..) hg (ha.trans ?_) hatt
      rw [done_room hatt.2.2.2]
      split
      · rename_i hr
        exact he hr
      · rfl
    refine ⟨fun hcase => ?quiet, fun hready hrun hta hstart hend hroom => ?lapses, fun hready hrun hout hcase => ?outside⟩
    case quiet =>
      obtain hfill | ⟨hready, hunset, htn⟩ := hcase
      · refine hstays (by rw [hfill]; rfl) fun hr => ?_
        rw [slotReady_of_filling hfill] at hr
        exact Bool.noConfusion hr
      · exact hstays (by rw [hready]; rfl) fun _ => evalTide_stays_unset (by exact hclock ▸ hunset) (htide.trans htn)
    case lapses =>
      obtain ⟨hg, ha⟩ := hdrop (by rw [hready]; rfl)
      have hnone : pageAt t.pages.slots t.clock.time = none := pageAt_eq_none.mpr fun j q hj => by
        obtain ⟨hjk, hj⟩ := hslots hj
        rw [hclock]
        by_contra hin
        exact hjk (hlaw.unique hready ⟨hstart, hend⟩ hj (by omega)).1
      have hroomt : RoomFor 1 (answered h .pageDrop .done .none t) := room_told (heq ▸ hroom.congr rfl rfl rfl) _
      have hact : actPageDrop h p.number s = raise 5 (noted .pageLapsed
          (answered h .pageDrop .done .none { t with pages := { t.pages with tide := .lapsed } })) := by
        have hne : t.pages.tide ≠ .lapsed := by
          rw [htide, hta]
          decide
        rw [ha, if_pos (slotReady_of_ready hready)]
        refine (evalTide_lapsed (s := answered h .pageDrop .done .none t) (by exact hclock ▸ hrun) hnone hne).trans ?_
        rw [offerNotice_room (by exact hroomt.congr rfl rfl rfl) (by exact hatt.2.1)]
        rfl
      rw [exec_acts_drains rfl ht (handleFrame_pageDrop ..) hg (by rw [actPageDrop_link]; exact ht.1.1), hact]
    case outside =>
      refine hstays (by rw [hready]; rfl) fun _ => ?_
      obtain ⟨hta, j, q, hj, hin⟩ | ⟨htl, hnone⟩ := hcase
      · have hjk : j ≠ k := by
          rintro rfl
          obtain rfl := PageSlot.ready.inj (hj.symm.trans hready)
          omega
        obtain ⟨x, hx⟩ := pageAt_isSome ((hother hjk).trans hj) (hclock ▸ hin)
        exact evalTide_stays_available (by exact hclock ▸ hrun) hx (htide.trans hta)
      · refine evalTide_stays_lapsed (by exact hclock ▸ hrun) (pageAt_eq_none.mpr fun j q hj => ?_) (htide.trans htl)
        change t.clock.time < _ ∨ _ ≤ t.clock.time
        rw [hclock]
        exact hnone j q (hslots hj).2

/-- Settles O43: the grounds of R48 and R49 in order, then the slot and the tide state that follows. -/
theorem pagesAreCommittedAndDropped : Obligations.PagesAreCommittedAndDropped :=
  ⟨pageCommitNeedsAPage, pageCommitMakesAPageReady, pageDropEmptiesTheSlot⟩

end Sys2Proof.Machine
end

section
/-! PROOFS. The reports of the page set and the tide: PAGE_LIST and TIDE_QUERY (R50, R57): O44. -/

namespace Sys2Proof.Machine

-- One theorem at a time: side by side, the proofs ask for more threads than the check's memory limit has stacks for.
set_option Elab.async false

/-! ## PAGE_LIST (R50) -/

theorem handleFrame_pageList (h : Header) (b : Body (Option (Nat × Nat))) (s : State) :
    handleFrame (.pageList h b) s = command .pageList h b groundPageList (actPageList h) s := rfl

theorem actPageList_eq (h : Header) (p : Option (Nat × Nat)) (s : State) : actPageList h p s =
    done h .pageList (.pageList s.clock.time s.clock.state s.pages.tide
      [slotReport s.pages.slots[0], slotReport s.pages.slots[1], slotReport s.pages.slots[2]] (listedTerms p s)) s := by
  unfold actPageList
  rw [toList_eq_map, List.map_map]
  rfl

theorem pageListReportsThePages : Claim.PageListReportsThePages := by
  intro h s slots ht hslots
  subst hslots
  refine ⟨fun number index hbad => ?bad, fun number index hlo hhi hone hlast => ?inRange, ?plain⟩
  case bad =>
    have hnot : (pageNumberOk number && between 1 24 index) = false := by
      rw [← Bool.not_eq_true, Bool.and_eq_true, pageNumberOk_iff]
      simp only [between, Bool.and_eq_true, decide_eq_true_eq]
      omega
    exact exec_refuses rfl ht (handleFrame_pageList ..) (if_pos hnot)
  case inRange =>
    have hok : (pageNumberOk number && between 1 24 index) = true := by
      simp [pageNumberOk, between, hlo, hhi, hone, hlast]
    have hground : groundPageList (some (number, index)) s = if (findPage s number).isNone then some .notFound else none := by
      unfold groundPageList
      dsimp only
      rw [hok, if_neg (by decide)]
    refine ⟨fun hnone => exec_refuses rfl ht (handleFrame_pageList ..) ?_, fun k p hp hnum huniq => ?_⟩
    · rw [hground, findPage_eq_none.mpr hnone]
      rfl
    · subst hnum
      have hf := findPage_eq_some hp huniq
      refine exec_done rfl ht (handleFrame_pageList ..) (by rw [hground, hf]; rfl) ?_ ht.1
      rw [actPageList_eq, listedTerms, hf]
      rfl
  case plain => exact exec_done rfl ht (handleFrame_pageList ..) rfl (actPageList_eq ..) ht.1

/-! ## TIDE_QUERY (R57) -/

theorem handleFrame_tideQuery (h : Header) (b : Body TideQueryParams) (s : State) :
    handleFrame (.tideQuery h b) s = command .tideQuery h b groundTideQuery (actTideQuery h) s := rfl

section
variable {p : TideQueryParams} {s : State}

/-- The range test of TIDE_QUERY. -/
theorem tideQueryOk_iff : (stationOk p.station && decide (queryTime p s ≤ Config.maxTime)) = true ↔
    (1 ≤ p.station ∧ p.station ≤ 16777215) ∧ queryTime p s ≤ 281474976710655 := by
  rw [Bool.and_eq_true, stationOk_iff, decide_eq_true_eq]
  exact Iff.rfl

theorem groundTideQuery_passed (h : (1 ≤ p.station ∧ p.station ≤ 16777215) ∧ queryTime p s ≤ 281474976710655) :
    groundTideQuery p s = if (findStation s.table p.station).isNone then some .notFound
      else if (pageAt s.pages.slots (queryTime p s)).isNone then some .noTide
      else none := by
  unfold groundTideQuery
  rw [tideQueryOk_iff.mpr h, if_neg (by decide)]

end

theorem tideQueryEvaluatesTheTide : Claim.TideQueryEvaluatesTheTide := by
  intro h station time s t ht hlaw htime
  have hquery : queryTime ⟨station, time⟩ s = t := htime.symm
  refine ⟨fun hbad => ?bad, fun hlo hhi hmax => ?inRange⟩
  case bad =>
    refine exec_refuses rfl ht (handleFrame_tideQuery ..) (if_pos ?_)
    rw [← Bool.not_eq_true, tideQueryOk_iff, hquery]
    dsimp only
    omega
  case inRange =>
    have hground := groundTideQuery_passed (p := ⟨station, time⟩) (s := s) ⟨⟨hlo, hhi⟩, by rw [hquery]; exact hmax⟩
    rw [hquery] at hground
    refine ⟨fun hnone => exec_refuses rfl ht (handleFrame_tideQuery ..) (hground.trans ?_), fun r hr =>
      ⟨fun hout => exec_refuses rfl ht (handleFrame_tideQuery ..) (hground.trans ?_), fun k p hk hstart hend => ?_⟩⟩
    · rw [hnone]
      rfl
    · rw [hr, pageAt_eq_none.mpr hout]
      rfl
    · have hpage := hlaw.pageAt_eq hk ⟨hstart, hend⟩
      refine exec_done rfl ht (handleFrame_tideQuery ..) (hground.trans ?_) ?_ ht.1
      · rw [hr, hpage]
        rfl
      · unfold actTideQuery
        rw [hquery, hr, hpage]

/-- Settles O44: the three lists report the page set, the tide and the station table, and change nothing. -/
theorem pageTideAndStationListsReport : Obligations.PageTideAndStationListsReport :=
  ⟨pageListReportsThePages, tideQueryEvaluatesTheTide, stnListReportsTheTable⟩

end Sys2Proof.Machine
end

section
/-! PROOFS. Steps of the survey clock, time marks, and the pages that follow the clock (chapter 3): O39, O40, O41. -/

namespace Sys2Proof.Machine

-- One theorem at a time: side by side, the proofs ask for more threads than the check's memory limit has stacks for.
set_option Elab.async false

/-! ## A step of the clock (R41) -/

theorem movePort_eq (d : Int) (p : HeadPort) : movePort d p = { p with
    state := match p.state with
      | .live e => .live (e + d)
      | .off => .off
      | .awaiting => .awaiting
      | .silent => .silent
    anchor := p.anchor.map fun a => { a with time := a.time + d } } := by
  obtain ⟨state⟩ := p
  cases state <;> rfl

theorem moveContext_eq (d : Int) (c : Context) : moveContext d c = { c with
    state := match c.state with
      | .settling e => .settling (e + d)
      | .running b e => .running (b + d) (e.map fun x => x + d)
      | .waiting => .waiting
      | .held r => .held r
      | .complete r => .complete r
      | .parked => .parked } := by
  obtain ⟨tag, head, station, state⟩ := c
  cases state <;> rfl

theorem clockStepMovesTimersAndAnchors : Claim.ClockStepMovesTimersAndAnchors := by
  rintro d s t rfl
  refine ⟨rfl, fun n => ⟨?_, vget_vmap .., ?_⟩, fun g => vget_vmap ..⟩
  · exact (vget_vmap ..).trans (movePort_eq ..)
  · exact (vget_vmap ..).trans (congrArg (fun f => s.occ.active[n].map f) (funext (moveContext_eq d)))

/-! ## The page set at a step (R51, R52, R54) -/

theorem endedPage_eq_none {k : PageSlotId} {s : State} (h : ∀ p, s.pages.slots[k] = .ready p → s.clock.time < p.start + 1000 * p.length) :
    endedPage k s = none := by
  cases he : endedPage k s with
  | none => rfl
  | some p =>
    obtain ⟨hready, hend⟩ := endedPage_eq_some.mp he
    have := h p hready
    unfold pageEnd now at hend
    omega

theorem retireEnded_stays {k : PageSlotId} {s : State} (h : ∀ p, s.pages.slots[k] = .ready p → s.clock.time < p.start + 1000 * p.length) :
    retireEnded s k = s := by
  unfold retireEnded
  rw [endedPage_eq_none h]

theorem endedPage_of_ended {k : PageSlotId} {s : State} {p : Page} (hp : s.pages.slots[k] = .ready p)
    (hend : p.start + 1000 * p.length ≤ s.clock.time) : endedPage k s = some p := by
  refine endedPage_eq_some.mpr ⟨hp, ?_⟩
  unfold pageEnd now
  omega

theorem retireEnded_retires {k : PageSlotId} {s : State} {p : Page} (hp : s.pages.slots[k] = .ready p)
    (hend : p.start + 1000 * p.length ≤ s.clock.time) : retireEnded s k =
      raise 4 (offerNotice (.pageRetired p.number p.start p.length k)
        { s with pages := { s.pages with slots := s.pages.slots.set k .empty } }) := by
  unfold retireEnded
  rw [endedPage_of_ended hp hend]
  rfl

theorem hasEntry_iff {s : State} : hasEntry s = true ↔ s.out.queue.length < 48 ∧ s.sys.restartPending = false := by
  unfold hasEntry
  rw [Bool.and_eq_true, decide_eq_true_eq, Bool.not_eq_true']
  exact Iff.rfl

theorem offerNotice_begins {x : Notice} {s : State} (hl : s.out.queue.length < 48) (hr : s.sys.restartPending = false)
    (hc : s.out.congested = false) (hh : s.settings.high ≤ s.out.queue.length + 1) : offerNotice x s = raise 7 (noted x s) := by
  unfold offerNotice
  rw [if_pos (hasEntry_iff.mpr ⟨hl, hr⟩)]
  exact join_begins hl hc hh

theorem offerNotice_cases (x : Notice) (s : State) :
    (RoomFor 1 s → s.sys.restartPending = false → offerNotice x s = noted x s) ∧
    (s.out.queue.length < 48 → s.sys.restartPending = false → s.out.congested = false →
      s.settings.high ≤ s.out.queue.length + 1 →
      offerNotice x s = raise 7 (noted x s) ∧ (noted x s).out.congested = true) ∧
    ((48 ≤ s.out.queue.length ∨ s.sys.restartPending = true) → offerNotice x s = lost s) := by
  refine ⟨fun hroom hr => offerNotice_room hroom hr, fun hl hr hc hh => ⟨offerNotice_begins hl hr hc hh, ?_⟩, fun h => ?_⟩
  · refine (told_congested ..).trans ?_
    simp [hh]
  · refine offerNotice_lost ?_ x
    rw [← Bool.not_eq_true, hasEntry_iff]
    rintro ⟨hl, hr⟩
    obtain h | h := h
    · omega
    · simp [h] at hr

theorem pageStepRetiresThenEvaluates : Claim.PageStepRetiresThenEvaluates := by
  intro s
  refine ⟨rfl, fun k => ⟨retireEnded_stays, fun p hp hend => retireEnded_retires hp hend⟩, evalTide_unset, fun hrun hlaw =>
    ⟨fun k p hk hstart hend => ?_, fun hout => ?_⟩, fun x => offerNotice_cases x s⟩
  · have hpage := hlaw.pageAt_eq hk ⟨hstart, hend⟩
    exact ⟨evalTide_stays_available hrun hpage, evalTide_available hrun hpage⟩
  · have hnone := pageAt_eq_none.mpr hout
    exact ⟨evalTide_stays_lapsed hrun hnone, evalTide_lapsed hrun hnone⟩

/-! ## SET_TIME (R40) -/

theorem handleFrame_setTime (h : Header) (b : Body Nat) (s : State) :
    handleFrame (.setTime h b) s = command .setTime h b groundSetTime (actSetTime h) s := rfl

theorem setTimeStepsTheClock : Claim.SetTimeStepsTheClock := by
  intro h t s ht
  refine ⟨fun hbad => exec_refuses rfl ht (handleFrame_setTime ..) (if_pos hbad), fun hok hg =>
    exec_refuses rfl ht (handleFrame_setTime ..) ?inUse, fun hok hnone hroom => ?steps⟩
  case inUse =>
    unfold groundSetTime
    rw [if_neg (by exact Nat.not_lt.mpr hok), if_pos (anyGathering_iff.mpr hg)]
  case steps =>
    have hground : groundSetTime t s = none := by
      unfold groundSetTime
      rw [if_neg (by exact Nat.not_lt.mpr hok), if_neg]
      rw [anyGathering_iff]
      rintro ⟨n, c, hc, hg⟩
      simp [hnone n c hc] at hg
    have hroomt : RoomFor 1 (answered h .setTime .done .none (setClock { time := t, state := .set } s)) :=
      room_told (hroom.congr rfl rfl rfl) _
    have hact : actSetTime h t s = pageStep (noted (.clockStepped t ((t : Int) - s.clock.time))
        (answered h .setTime .done .none (applyStep ((t : Int) - s.clock.time) { s with clock := { time := t, state := .set } }))) := by
      unfold actSetTime
      dsimp only
      rw [done_room (by exact ht.1.2.2.2.congr rfl rfl rfl), offerNotice_room hroomt ht.1.2.1]
      rfl
    rw [exec_acts_drains rfl ht (handleFrame_setTime ..) hground (by rw [actSetTime_link]; exact ht.1.1), hact]

/-- Settles O39: SET_TIME sets the clock and moves every timer by the step; the pages and the tide follow the new time. -/
theorem setTimeMovesEveryTimer : Obligations.SetTimeMovesEveryTimer :=
  ⟨clockStepMovesTimersAndAnchors, pageStepRetiresThenEvaluates, setTimeStepsTheClock⟩

/-! ## TIME_MARK and LOSS_EXPIRY (R42 to R44) -/

theorem takeMark_runs {s : State} (h : s.clock.state ≠ .unset) : takeMark s = match markSecond (now s) with
    | some second => snapClock second s
    | none => markOff s := by
  unfold takeMark
  rw [if_pos (clockRuns_eq_true.mpr h)] <;> rfl

theorem takeMark_snaps {s : State} {second : Nat} (h : s.clock.state ≠ .unset) (hm : markSecond (now s) = some second) :
    takeMark s = snapClock second s := by
  rw [takeMark_runs h, hm]

theorem takeMark_off {s : State} (h : s.clock.state ≠ .unset) (hm : markSecond (now s) = none) : takeMark s = markOff s := by
  rw [takeMark_runs h, hm]

theorem markSecond_inside {t second r : Nat} (hr : r = t % 1000)
    (h : r ≤ 50 ∧ second = t - r ∨ 950 ≤ r ∧ second = t + 1000 - r) : markSecond t = some second := by
  unfold markSecond
  dsimp only
  rw [← hr]
  obtain ⟨hlow, rfl⟩ | ⟨hhigh, rfl⟩ := h
  · exact if_pos hlow
  · rw [if_neg (by omega), if_pos hhigh]

theorem markSecond_outside {t r : Nat} (hr : r = t % 1000) (hlow : 50 < r) (hhigh : r < 950) : markSecond t = none := by
  unfold markSecond
  dsimp only
  rw [← hr, if_neg (by omega), if_neg (by omega)]

theorem timeMarkSnapsOrUnlocks : Claim.TimeMarkSnapsOrUnlocks := by
  intro s r hq hroom hr hmod
  refine ⟨fun hunset => ?unset, fun second d snapped hwindow hsnapped => ?inside, fun hlow hhigh => ?outside⟩
  case unset =>
    have hnone : takeMark s = s := by
      unfold takeMark
      rw [if_neg (by rw [clockRuns_eq_false.mpr hunset]; decide)]
    simp only [exec, execTimeMark, hnone, latchNext_quiet hq]
  case inside =>
    have hsecond : markSecond (now s) = some second := markSecond_inside hmod
      (hwindow.imp (fun h => ⟨h.1, h.2.1⟩) fun h => ⟨h.1, h.2.1⟩)
    have hstep : (second : Int) - now s = d := by
      unfold now
      omega
    refine ⟨fun hset => ?_, fun e hlocked => ?_⟩
    · have hsnap : snapClock second s = pageStep (applyStep d
          (raise 6 (noted (.clockLocked second d) (snapped ((second : Int) + 10000))))) := by
        unfold snapClock
        dsimp only
        rw [hstep, if_pos hset, hsnapped, offerNotice_room (by exact hroom.congr rfl rfl rfl) (by exact hr)]
        rfl
      simp only [exec, execTimeMark, takeMark_snaps (by rw [hset]; decide) hsecond, hsnap]
    · have hsnap : snapClock second s = pageStep (applyStep d (snapped ((second : Int) + 10000))) := by
        unfold snapClock
        dsimp only
        rw [hstep, if_neg (by simp [hlocked]), hsnapped]
        rfl
      simp only [exec, execTimeMark, takeMark_snaps (by simp [hlocked]) hsecond, hsnap]
  case outside =>
    have hnone := markSecond_outside hmod hlow hhigh
    refine ⟨fun hset => ?_, fun e hlocked => ?_⟩
    · have hoff : markOff s = s := by
        unfold markOff
        rw [hset]
      simp only [exec, execTimeMark, takeMark_off (by rw [hset]; decide) hnone, hoff, latchNext_quiet hq]
    · have hoff : takeMark s = offerNotice (.clockUnlocked (.markOff r)) { s with clock := { s.clock with state := .set } } := by
        rw [takeMark_off (by simp [hlocked]) hnone, markOff, hlocked, hmod]
        rfl
      simp only [exec, execTimeMark, hoff]
      rw [latchNext_offerNotice (by exact quiet_congr rfl rfl hq) (by exact hroom.congr rfl rfl rfl) (by exact hr)]

theorem lossExpiryUnlocksTheClock : Claim.LossExpiryUnlocksTheClock := by
  intro s e hlocked hdue hq hroom hr
  have hdue : due (now s) (lossTimer s) = true := by
    rw [lossTimer_eq_some.mpr hlocked, due_some]
    exact decide_eq_true hdue
  simp only [exec, execLossExpiry, hdue, if_true]
  rw [latchNext_offerNotice (by exact quiet_congr rfl rfl hq) (by exact hroom.congr rfl rfl rfl) (by exact hr)]
  rfl

/-- Settles O40: a mark inside the window snaps the clock, one outside unlocks it, and so does the loss timer. -/
theorem timeMarksLockAndUnlockTheClock : Obligations.TimeMarksLockAndUnlockTheClock :=
  ⟨timeMarkSnapsOrUnlocks, lossExpiryUnlocksTheClock⟩

/-! ## PAGE_RETIREMENT and SPAN_START (R52, R53) -/

theorem raise_keeps (i : Source) (s : State) : (raise i s).pages = s.pages ∧ (raise i s).clock = s.clock ∧
    (raise i s).out = s.out ∧ (raise i s).sys = s.sys ∧ (raise i s).settings = s.settings := by
  obtain ⟨e, h⟩ := raise_frame i s
  rw [h]
  exact ⟨rfl, rfl, rfl, rfl, rfl⟩

theorem pageRetirementEmptiesTheSlot : Claim.PageRetirementEmptiesTheSlot := by
  intro s t k p hlaw hp hrun hend hroom hr heq
  obtain ⟨hpages, hclock, hout, hsys, hset⟩ := raise_keeps 4 (noted (.pageRetired p.number p.start p.length k)
    { s with pages := { s.pages with slots := s.pages.slots.set k .empty } })
  rw [← heq] at hpages hclock hout hsys hset
  have hexec : exec (.pageRetirement k) s = .next (latchNext (evalTide t)) := by
    have hdue : (clockRuns s && (endedPage k s).isSome) = true := by
      rw [endedPage_of_ended hp hend, clockRuns_eq_true.mpr hrun]
      rfl
    simp only [exec, execPageRetirement, hdue, if_true]
    rw [retireEnded_retires hp hend, offerNotice_room (by exact (hroom.mono (by decide)).congr rfl rfl rfl) (by exact hr), heq]
  have hruns : t.clock.state ≠ .unset := by
    rw [hclock]
    exact hrun
  have htime : t.clock.time = s.clock.time := by rw [hclock]; rfl
  have htide : t.pages.tide = s.pages.tide := by rw [hpages]; rfl
  refine ⟨fun ⟨j, q, hj, hin⟩ hta => ?_, fun hnone hta => ?_⟩
  · have hjk : j ≠ k := by
      rintro rfl
      obtain rfl := PageSlot.ready.inj (hj.symm.trans hp)
      omega
    have hready : t.pages.slots[j] = .ready q := by
      rw [hpages]
      exact (vget_set_ne _ (Ne.symm hjk) _).trans hj
    obtain ⟨x, hx⟩ := pageAt_isSome hready (htime ▸ hin)
    rw [hexec, evalTide_stays_available hruns hx (htide.trans hta)]
  · have hpage : pageAt t.pages.slots t.clock.time = none := pageAt_eq_none.mpr fun j q hj => by
      rw [hpages] at hj
      rw [htime]
      exact (ready_setSlot hj).elim (fun h => PageSlot.noConfusion h) (hnone j q)
    have hroomt : RoomFor 1 t := by
      have htold := room_told (s := { s with pages := { s.pages with slots := s.pages.slots.set k .empty } })
        (hroom.congr rfl rfl rfl) (.notice (now s) (.pageRetired p.number p.start p.length k))
      exact htold.congr (by rw [hout]; rfl) (by rw [hout]; rfl) (by rw [hset]; rfl)
    rw [hexec, evalTide_lapsed hruns hpage (by rw [htide, hta]; decide),
      offerNotice_room (by exact hroomt.congr rfl rfl rfl) (by rw [hsys]; exact hr)]

theorem spanStartMakesTheTideAvailable : Claim.SpanStartMakesTheTideAvailable := by
  intro s k p hlaw hp hrun htl hstart hend hq hroom hr
  have hpage := hlaw.pageAt_eq hp ⟨hstart, hend⟩
  have hstarted : spanStarted s = true := by
    simp only [spanStarted, clockRuns_eq_true.mpr hrun, htl, now, hpage]
    rfl
  simp only [exec, execSpanStart, hstarted, if_true]
  rw [evalTide_available hrun hpage (by rw [htl]; decide),
    latchNext_offerNotice (by exact quiet_congr rfl rfl hq) (by exact hroom.congr rfl rfl rfl) (by exact hr)]

/-- Settles O41: the ended page leaves its slot and the tide state is evaluated; a span start makes the tide available. -/
theorem pagesRetireAndSpansStart : Obligations.PagesRetireAndSpansStart :=
  ⟨pageRetirementEmptiesTheSlot, spanStartMakesTheTideAvailable⟩

end Sys2Proof.Machine
end

section
/-! PROOFS. Entering and leaving the states of a context, and the joint groups (R78, R79, R82, R134 to R137): O46, O47. -/

namespace Sys2Proof.Machine

-- One theorem at a time: side by side, the proofs ask for more threads than the check's memory limit has stacks for.
set_option Elab.async false

/-! ## Entering and leaving a state (R78, R79) -/

theorem running_of_held {t : Nat} {c : Context} {w : HoldReason} (h : c.state = .held w) : running t c =
    { c with
      state := .running t (if c.policy.runLimit = 0 then none
        else some ((t : Int) + 1000 * c.policy.runLimit - c.acc.duration))
      acc := { c.acc with segments := if c.acc.segments = 0 then 1 else c.acc.segments } } := by
  simp only [running, nextSegments, h]

theorem running_of_not_held {t : Nat} {c : Context} (h : ∀ w, c.state ≠ .held w) : running t c =
    { c with
      state := .running t (if c.policy.runLimit = 0 then none
        else some ((t : Int) + 1000 * c.policy.runLimit - c.acc.duration))
      acc := { c.acc with segments := min (c.acc.segments + 1) 65535 } } := by
  have hnext : nextSegments c = min (c.acc.segments + 1) 65535 := by
    unfold nextSegments
    split
    case h_1 hw => exact absurd hw (h _)
    all_goals rfl
  simp only [running, hnext]

theorem leaveState_of_running {t : Nat} {c : Context} {b : Int} {e : Option Int} (h : c.state = .running b e) :
    leaveState t c = { c.acc with duration := c.acc.duration + ((t : Int) - b).toNat } := by
  simp only [leaveState, runningDuration, h]

theorem leaveState_of_not_running {t : Nat} {c : Context} (h : ∀ b e, c.state ≠ .running b e) : leaveState t c = c.acc := by
  have hsame : runningDuration t c = c.acc.duration := by
    unfold runningDuration
    split
    case h_1 hr => exact absurd hr (h _ _)
    all_goals rfl
  unfold leaveState
  rw [hsame]

theorem contextEntriesKeepTimersDurationAndSegments : Claim.ContextEntriesKeepTimersDurationAndSegments := fun _ _ =>
  ⟨rfl, fun _ => running_of_held, running_of_not_held, fun _ _ => leaveState_of_running, leaveState_of_not_running, rfl⟩

/-! ## The end of SETTLING (R82) -/

section
variable {n : Head} {c : Context} {s : State}

theorem settleExpiryOf_settling {e : Int} (h : c.state = .settling e) : settleExpiryOf c = some e := by
  simp only [settleExpiryOf, h]

theorem settleEnds_alone {e : Int} (hc : s.occ.active[n] = some c) (hst : c.state = .settling e) (hg : c.group = none) :
    settleEnds n s = setActive n (some (running s.clock.time c)) s := by
  unfold settleEnds
  rw [hc]
  dsimp only
  rw [settleExpiryOf_settling hst, hg]
  rfl

theorem settleEnds_member {e : Int} {g : Group} (hc : s.occ.active[n] = some c) (hst : c.state = .settling e)
    (hg : c.group = some g) : settleEnds n s = arrive n c g s := by
  unfold settleEnds
  rw [hc]
  dsimp only
  rw [settleExpiryOf_settling hst, hg]

theorem passSettle_some (hc : s.occ.active[n] = some c) :
    passSettle n s = if c.policy.settle = 0 then settleEnds n s else s := by
  unfold passSettle
  rw [hc]

end

theorem settleExpiryStartsRunningOrArrives : Claim.SettleExpiryStartsRunningOrArrives := by
  intro n s c e hc hst
  refine ⟨fun hdue hq => ?expiry, fun hne => ?stays, fun hzero => ?passes⟩
  case expiry =>
    have hexec : exec (.settleExpiry n) s = .next (latchNext (settleEnds n s)) := by
      have hdue : due (now s) (settleTimer s n) = true := by
        rw [settleTimer_eq_some.mpr ⟨c, hc, hst⟩, due_some]
        exact decide_eq_true hdue
      simp only [exec, execSettleExpiry, hdue, if_true]
    rw [hexec]
    refine ⟨fun hg => ?_, fun g hg => ?_⟩
    · rw [settleEnds_alone hc hst hg, latchNext_quiet (by exact quiet_congr rfl rfl hq)]
      rfl
    · rw [settleEnds_member hc hst hg]
  case stays => rw [passSettle_some hc, if_neg hne]
  case passes =>
    rw [passSettle_some hc, if_pos hzero]
    exact ⟨fun hg => settleEnds_alone hc hst hg, fun g hg => settleEnds_member hc hst hg⟩

/-- Settles O46: the entries to each state, and the end of SETTLING by its timer or with a settle time of 0. -/
theorem settlingEndsInRunningOrAnArrival : Obligations.SettlingEndsInRunningOrAnArrival :=
  ⟨contextEntriesKeepTimersDurationAndSegments, settleExpiryStartsRunningOrArrives⟩

/-! ## The members of a list that start (R135, R136) -/

/-- A head's slot after the members of a list have entered RUNNING. -/
def startedSlot (t : Nat) (f : Context → Context) (l : List Nat) (a : Option Context) : Option Context :=
  a.map fun d => if d.tag ∈ l then running t (f d) else d

section
variable {t : Nat} {f : Context → Context} {l : List Nat} {d : Context}

theorem startedSlot_member (h : d.tag ∈ l) : startedSlot t f l (some d) = some (running t (f d)) := congrArg some (if_pos h)

theorem startedSlot_other (h : d.tag ∉ l) : startedSlot t f l (some d) = some d := congrArg some (if_neg h)

theorem startedSlot_cons_other {tag : Nat} (h : d.tag ≠ tag) : startedSlot t f (tag :: l) (some d) = startedSlot t f l (some d) := by
  by_cases hm : d.tag ∈ l
  · rw [startedSlot_member hm, startedSlot_member (List.mem_cons_of_mem _ hm)]
  · rw [startedSlot_other hm, startedSlot_other (by simp [h, hm])]

end

theorem activeTagsDistinct_set {o : Occupations} (h : ActiveTagsDistinct o) {n : Head} {c d : Context} (hc : o.active[n] = some c)
    (ht : d.tag = c.tag) : ActiveTagsDistinct { o with active := o.active.set n (some d) } := by
  have hslot {m : Head} {x : Context} (hx : (o.active.set n (some d))[m] = some x) : ∃ y, o.active[m] = some y ∧ y.tag = x.tag := by
    rw [vget_set] at hx
    split at hx
    · rename_i hnm
      subst hnm
      obtain rfl := Option.some.inj hx
      exact ⟨c, hc, ht.symm⟩
    · exact ⟨x, hx, rfl⟩
  intro m k x y hx hy hxy
  obtain ⟨x', hx', htx⟩ := hslot hx
  obtain ⟨y', hy', hty⟩ := hslot hy
  exact h m k x' y' hx' hy' (by rw [htx, hty, hxy])

/-- The members of a list that are active enter RUNNING, and nothing else changes. -/
theorem startMembers_run {f : Context → Context} (hf : ∀ c, (f c).tag = c.tag) {l : List Nat} (hl : l.Nodup) {s : State}
    (hd : ActiveTagsDistinct s.occ) : ∃ o : Occupations, l.foldl (startMember f) s = { s with occ := o } ∧
      o.store = s.occ.store ∧ o.waiting = s.occ.waiting ∧ ∀ m : Head, o.active[m] = startedSlot s.clock.time f l s.occ.active[m] := by
  induction l generalizing s with
  | nil =>
    refine ⟨s.occ, rfl, rfl, rfl, fun m => ?_⟩
    cases s.occ.active[m] <;> rfl
  | cons tag l ih =>
    obtain ⟨hnot, hl⟩ := List.nodup_cons.mp hl
    cases hh : activeHead s.occ tag with
    | none =>
      have hone : startMember f s tag = s := by simp only [startMember, hh]
      obtain ⟨o, hfold, hstore, hwaiting, hactive⟩ := ih hl hd
      refine ⟨o, by rw [List.foldl_cons, hone, hfold], hstore, hwaiting, fun m => ?_⟩
      rw [hactive m]
      cases hm : s.occ.active[m] with
      | none => rfl
      | some d => exact (startedSlot_cons_other (activeHead_none hh m d hm)).symm
    | some n =>
      obtain ⟨c, hc, htag⟩ := activeHead_some hh
      have hone : startMember f s tag = setActive n (some (running s.clock.time (f c))) s := by
        simp only [startMember, hh, hc]
        rfl
      obtain ⟨o, hfold, hstore, hwaiting, hactive⟩ := ih hl (s := setActive n (some (running s.clock.time (f c))) s)
        (activeTagsDistinct_set hd hc (hf c))
      refine ⟨o, by rw [List.foldl_cons, hone, hfold]; rfl, hstore, hwaiting, fun m => ?_⟩
      rw [hactive m]
      change startedSlot s.clock.time f l (s.occ.active.set n _)[m] = _
      by_cases hm : m = n
      · subst hm
        have hown : (running s.clock.time (f c)).tag ∉ l := fun h => hnot (htag ▸ hf c ▸ h)
        have hmember : c.tag ∈ tag :: l := htag ▸ List.mem_cons_self ..
        rw [vget_set_self, hc, startedSlot_other hown, startedSlot_member hmember]
      · rw [vget_set_ne _ (Ne.symm hm)]
        cases hd' : s.occ.active[m] with
        | none => rfl
        | some d =>
          exact (startedSlot_cons_other fun heq => hm (hd m n d c hd' hc (heq.trans htag.symm))).symm

/-- A group whose list starts is IDLE after, and its notice joins. -/
theorem startMembers_notes {f : Context → Context} (hf : ∀ c, (f c).tag = c.tag) {l : List Nat} (hl : l.Nodup) {s : State}
    (hd : ActiveTagsDistinct s.occ) (g : Group) (j : JointGroup) (x : Notice) (hroom : RoomFor 1 s)
    (hr : s.sys.restartPending = false) : ∃ o : Occupations,
      offerNotice x (setGroup g j (l.foldl (startMember f) s)) = noted x { s with occ := o, groups := s.groups.set g j } ∧
      o.store = s.occ.store ∧ o.waiting = s.occ.waiting ∧ (∀ m : Head, s.occ.active[m] = none → o.active[m] = none) ∧
      ∀ (m : Head) (d : Context), s.occ.active[m] = some d →
        (d.tag ∈ l → o.active[m] = some (running s.clock.time (f d))) ∧ (d.tag ∉ l → o.active[m] = some d) := by
  obtain ⟨o, hfold, hstore, hwaiting, hactive⟩ := startMembers_run hf hl hd
  refine ⟨o, ?_, hstore, hwaiting, fun m hm => by rw [hactive, hm]; rfl, fun m d hm => ?_⟩
  · rw [hfold, offerNotice_room (by exact hroom.congr rfl rfl rfl) (by exact hr)]
    rfl
  · rw [hactive, hm]
    exact ⟨startedSlot_member, startedSlot_other⟩

/-! ## Arrivals and releases (R134 to R136) -/

theorem arrivalGathersOrReleasesTheGroup : Claim.ArrivalGathersOrReleasesTheGroup := by
  intro n c g s j w hc hj hw
  subst hj
  have htimer : (if s.groups[g].arrivals.isEmpty then some ((now s : Int) + 1000 * s.settings.groups[g].waitLimit)
      else s.groups[g].timer) = if s.groups[g].arrivals = [] then some ((s.clock.time : Int) + 1000 * s.settings.groups[g].waitLimit)
        else s.groups[g].timer := by
    simp only [List.isEmpty_iff]
    rfl
  refine ⟨fun hshort => ?gathers, fun hfull hdist hnodup hroom hr => ?releases⟩
  case gathers =>
    unfold arrive
    dsimp only
    rw [List.length_append, List.length_singleton, if_neg (Nat.not_le.mpr hshort), htimer, hw]
    rfl
  case releases =>
    have hdist' : ActiveTagsDistinct w := by
      rw [hw]
      exact activeTagsDistinct_set hdist hc rfl
    obtain ⟨o, hnotes, hstore, hwaiting, hnone, hsome⟩ := startMembers_notes
      (f := fun d => { d with acc := { d.acc with joint := some (nextRun s.groups[g].run, s.clock.time) } }) (fun _ => rfl) hnodup
      (s := { s with
        occ := w
        groups := s.groups.set g
          { s.groups[g] with
            arrivals := s.groups[g].arrivals ++ [c.tag]
            timer := if s.groups[g].arrivals = [] then some ((s.clock.time : Int) + 1000 * s.settings.groups[g].waitLimit)
              else s.groups[g].timer } }) hdist' g { arrivals := [], timer := none, run := nextRun s.groups[g].run }
      (.jointRelease g (nextRun s.groups[g].run) s.clock.time (membersOf w (s.groups[g].arrivals ++ [c.tag])))
      (hroom.congr rfl rfl rfl) hr
    refine ⟨nextRun s.groups[g].run, o, rfl, ?_, hstore.trans (by rw [hw]), hwaiting.trans (by rw [hw]), hnone, hsome⟩
    have hset : (s.groups.set g
          { s.groups[g] with
            arrivals := s.groups[g].arrivals ++ [c.tag]
            timer := if s.groups[g].arrivals = [] then some ((s.clock.time : Int) + 1000 * s.settings.groups[g].waitLimit)
              else s.groups[g].timer }).set g { arrivals := [], timer := none, run := nextRun s.groups[g].run } =
        s.groups.set g { arrivals := [], timer := none, run := nextRun s.groups[g].run } := Vector.set_set ..
    dsimp only at hnotes
    rw [hset] at hnotes
    rw [← hnotes]
    unfold arrive
    dsimp only
    rw [List.length_append, List.length_singleton, if_pos hfull, htimer]
    unfold jointRelease
    have hown : ∀ (x : JointGroup) (u : State), (setGroup g x u).groups[g] = x := fun _ _ => vget_set_self ..
    dsimp only
    rw [hown, hw]
    rfl

theorem gatheringExpiryReleasesUnjoined : Claim.GatheringExpiryReleasesUnjoined := by
  intro g s j e hj htimer hdue hq hroom hr hdist hnodup
  subst hj
  obtain ⟨o, hnotes, hrest⟩ := startMembers_notes (f := fun d => { d with flags := { d.flags with unjoined := true } })
    (fun _ => rfl) hnodup hdist g { arrivals := [], timer := none, run := s.groups[g].run }
    (.unjoined g (membersOf s.occ s.groups[g].arrivals)) hroom hr
  refine ⟨o, ?_, hrest⟩
  have hdue : due (now s) s.groups[g].timer = true := by
    rw [htimer, due_some]
    exact decide_eq_true hdue
  have hends : gatheringEnds g s = noted (.unjoined g (membersOf s.occ s.groups[g].arrivals))
      { s with occ := o, groups := s.groups.set g { arrivals := [], timer := none, run := s.groups[g].run } } := hnotes
  simp only [exec, execGatheringExpiry, hdue, if_true]
  rw [hends, latchNext_quiet (by exact quiet_congr rfl rfl hq)]

/-! ## Leaving a list (R137) -/

section
variable {c : Context} {s : State}

theorem leaveList_alone (h : c.group = none) : leaveList c s = s := by simp only [leaveList, h]

theorem leaveList_absent {g : Group} (h : c.group = some g) (hm : c.tag ∉ s.groups[g].arrivals) : leaveList c s = s := by
  simp only [leaveList, h, if_neg hm]

theorem leaveList_present {g : Group} (h : c.group = some g) (hm : c.tag ∈ s.groups[g].arrivals) : leaveList c s =
    { s with
      groups := s.groups.set g
        { arrivals := s.groups[g].arrivals.filter fun x => x != c.tag
          timer := if (s.groups[g].arrivals.filter fun x => x != c.tag) = [] then none else s.groups[g].timer
          run := s.groups[g].run } } := by
  simp only [leaveList, h, if_pos hm, List.isEmpty_iff]
  rfl

end

theorem leavingTheArrivalListKeepsTheOthers : Claim.LeavingTheArrivalListKeepsTheOthers := fun _ _ =>
  ⟨leaveList_alone, fun _ hg => ⟨leaveList_absent hg, fun hm _ hl => hl ▸ leaveList_present hg hm⟩⟩

/-- Settles O47: the list of a group as its members arrive, are released, expire and leave. -/
theorem jointGroupsGatherReleaseAndLose : Obligations.JointGroupsGatherReleaseAndLose :=
  ⟨arrivalGathersOrReleasesTheGroup, gatheringExpiryReleasesUnjoined, leavingTheArrivalListKeepsTheOthers⟩

end Sys2Proof.Machine
end

section
/-! PROOFS. The occupation commands that query, open, hold, release and clone (chapters 5 and 6): O26, O48, O49. -/

namespace Sys2Proof.Machine

-- One theorem at a time: side by side, the proofs ask for more threads than the check's memory limit has stacks for.
set_option Elab.async false

/-- A taken command whose action is known by the answered state. -/
theorem exec_answers_done {α : Type} {k : Kind} {h : Header} {c : Instr} {ground : α → State → Option Status}
    {act : α → State → State} {s t : State} {a : α} {d : ReplyData} (hc : c.isFrame = true) (ht : Taken k h s)
    (hf : handleFrame c s = command k h (.ok a) ground act s) (hg : ground a s = none) (ha : act a s = answered h k .done d t)
    (hatt : Attentive t) : exec c s = .next (answered h k .done d t) :=
  exec_done hc ht hf hg (ha.trans (done_room hatt.2.2.2).symm) hatt

/-! ## OCC_QUERY (R103) -/

theorem handleFrame_occQuery (h : Header) (b : Body (Option Nat)) (s : State) :
    handleFrame (.occQuery h b) s = command .occQuery h b groundOccQuery (actOccQuery h) s := rfl

theorem groundTag_absent {tag : Nat} {s : State} (ht : tag ≠ 0) (h : findTag s.occ tag = none) : groundTag tag s = some .notFound := by
  simp only [groundTag, ht, if_false, h, Option.isNone_none, if_true]

theorem groundTag_present {tag : Nat} {s : State} {x : Place × Context} (ht : tag ≠ 0) (h : findTag s.occ tag = some x) :
    groundTag tag s = none := by
  simp only [groundTag, ht, if_false, h, Option.isNone_some, Bool.false_eq_true]

/-- Settles O26: the summaries of all live contexts, or the detail of the one that carries the tag. -/
theorem occQueryReportsContexts : Obligations.OccQueryReportsContexts := by
  intro h s ht
  refine ⟨exec_refuses rfl ht (handleFrame_occQuery ..) rfl, exec_done rfl ht (handleFrame_occQuery ..) rfl rfl ht.1,
    fun tag htag => ⟨fun hnone => exec_refuses rfl ht (handleFrame_occQuery ..) (groundTag_absent htag hnone), fun q c hc => ?_⟩⟩
  refine exec_done rfl ht (handleFrame_occQuery ..) (groundTag_present htag hc) ?_ ht.1
  unfold actOccQuery occQueryData
  dsimp only
  rw [hc]
  cases q <;> rfl

/-! ## OCC_OPEN (R69, R70, R75, R80, R81) -/

theorem handleFrame_occOpen (h : Header) (b : Body OccOpenParams) (s : State) :
    handleFrame (.occOpen h b) s = command .occOpen h b groundOccOpen (actOccOpen h) s := rfl

theorem isLive_iff {p : HeadPort} : isLive p = true ↔ ∃ e, p.state = .live e := by
  unfold isLive
  split <;> simp_all

theorem isLive_of_live {p : HeadPort} {e : Int} (h : p.state = .live e) : isLive p = true := isLive_iff.mpr ⟨e, h⟩

theorem isLive_eq_false {p : HeadPort} (h : ∀ e, p.state ≠ .live e) : isLive p = false := by
  rw [← Bool.not_eq_true, isLive_iff]
  rintro ⟨e, he⟩
  exact h e he

section
variable {p : OccOpenParams} {n : Head} {s : State}

theorem occOpenOk_iff : occOpenOk p s = true ↔ p.tag ≠ 0 ∧ p.tag ≤ 65535 ∧ (1 ≤ p.station ∧ p.station ≤ 16777215) ∧
    policyOk (combine s.settings.policy p.items) = true ∧ inlineOk p.inline = true := by
  simp only [occOpenOk, Bool.and_eq_true, decide_eq_true_eq, stationOk_iff, and_assoc]

theorem groundOccOpen_tested (hn : p.head = n.val) (hok : occOpenOk p s = true) : groundOccOpen p s =
    if (findTag s.occ p.tag).isSome then some .existing
    else if isLive s.ports[n] = false then some .wrongState
    else if s.occ.active[n].isSome then some .inUse
    else tableGround p s.table := by
  simp only [groundOccOpen, hn, headOf_val, hok, Bool.true_eq_false, if_false]

end

theorem occOpenIsRefusedInOrder : Claim.OccOpenIsRefusedInOrder := by
  intro h p s ht
  refine ⟨fun hbad => ?bad, fun n hn htag hmax hlo hhi hpol hinl => ?tested⟩
  case bad =>
    refine exec_refuses rfl ht (handleFrame_occOpen ..) ?_
    unfold groundOccOpen
    split
    · rfl
    · rename_i n hn
      refine if_pos ?_
      rw [← Bool.not_eq_true, occOpenOk_iff]
      rintro ⟨htag, -, hstation, hpol, hinl⟩
      obtain hbad | hbad | hbad | hbad | hbad | hbad := hbad
      · rw [headOf_eq_none hbad] at hn
        exact absurd hn (Option.some_ne_none n).symm
      · exact htag hbad
      · omega
      · omega
      · rw [hpol] at hbad
        exact Bool.noConfusion hbad
      · rw [hinl] at hbad
        exact Bool.noConfusion hbad
  case tested =>
    have hground := groundOccOpen_tested hn (occOpenOk_iff.mpr ⟨htag, hmax, ⟨hlo, hhi⟩, hpol, hinl⟩)
    refine ⟨fun hex => exec_refuses rfl ht (handleFrame_occOpen ..) (hground.trans (if_pos hex)), fun hnone => ?_⟩
    rw [hnone, if_neg (by decide)] at hground
    refine ⟨fun hlive => exec_refuses rfl ht (handleFrame_occOpen ..) (hground.trans (if_pos (isLive_eq_false hlive))),
      fun e he => ?_⟩
    rw [isLive_of_live he, if_neg (by decide)] at hground
    refine ⟨fun hused => exec_refuses rfl ht (handleFrame_occOpen ..) (hground.trans (if_pos hused)), fun hvacant => ?_⟩
    rw [hvacant, if_neg (by decide)] at hground
    refine ⟨fun habsent hi => ?_, fun r x hr hi hpos => ?_, fun habsent hi hfull => ?_⟩
    · exact exec_refuses rfl ht (handleFrame_occOpen ..) (hground.trans (by simp only [tableGround, habsent, hi]))
    · exact exec_refuses rfl ht (handleFrame_occOpen ..) (hground.trans (by simp only [tableGround, hr, hi, hpos, if_false]))
    · obtain ⟨x, hx⟩ := Option.isSome_iff_exists.mp hi
      refine exec_refuses rfl ht (handleFrame_occOpen ..) (hground.trans ?_)
      simp only [tableGround, habsent, hx, hfull, Bool.false_eq_true, if_false]

section
variable {p : OccOpenParams} {n : Head} {s : State}

theorem openStation_known {t : StationTable} {r : StationRecord} (h : findStation t p.station = some r) :
    openStation p t = updateStation p.station (markUsed 1) t := by
  simp only [openStation, h]

theorem openStation_learned {t : StationTable} {x : Position × Option Int} (h : findStation t p.station = none)
    (hx : p.inline = some x) : openStation p t = placeRecord (learnedRecord p.station x.1 x.2) t := by
  simp only [openStation, h, hx]

/-- The table of an OCC_OPEN: the station's record is referenced and marked, or learned; no other record changes. -/
theorem findStation_openStation {t : StationTable} (ht : TableLaw t) (hg : tableGround p t = none) :
    (∀ r, findStation t p.station = some r →
      findStation (openStation p t) p.station = some { r with refs := r.refs + 1, current := true }) ∧
    (findStation t p.station = none → ∀ x, p.inline = some x →
      findStation (openStation p t) p.station = some (learnedRecord p.station x.1 x.2)) ∧
    ∀ m, m ≠ p.station → findStation (openStation p t) m = findStation t m := by
  have hnum : ∀ r : StationRecord, (markUsed 1 r).number = r.number := fun _ => rfl
  refine ⟨fun r hr => ?_, fun hnone x hx => ?_, fun m hm => ?_⟩
  · rw [openStation_known hr, findStation_updateStation hnum, if_pos rfl, hr]
    rfl
  · rw [openStation_learned hnone hx]
    exact (findStation_placeRecord (r := learnedRecord p.station x.1 x.2) ht hnone p.station).trans (if_pos rfl)
  · cases hf : findStation t p.station with
    | some r => rw [openStation_known hf, findStation_updateStation hnum, if_neg hm]
    | none =>
      cases hx : p.inline with
      | none => simp [tableGround, hf, hx] at hg
      | some x =>
        rw [openStation_learned hf hx]
        exact (findStation_placeRecord (r := learnedRecord p.station x.1 x.2) ht hf m).trans (if_neg hm)

theorem tableGround_of_passed (hn : p.head = n.val) (hg : groundOccOpen p s = none) : tableGround p s.table = none := by
  simp only [groundOccOpen, hn, headOf_val, passes_iff] at hg
  exact hg.2.2.2.2

end

/-- A context that is not SETTLING passes through nothing. -/
theorem passSettle_not_settling {n : Head} {c : Context} {s : State} (hc : s.occ.active[n] = some c) (h : settleExpiryOf c = none) :
    passSettle n s = s := by
  rw [passSettle_some hc]
  split
  · unfold settleEnds
    rw [hc]
    dsimp only
    rw [h]
  · rfl

theorem occOpenCreatesTheContext : Claim.OccOpenCreatesTheContext := by
  intro h p n s c ht htable hn hg hc
  obtain ⟨hknown, hlearned, hothers⟩ := findStation_openStation htable (tableGround_of_passed hn hg)
  have hnew : newContext n p s = c := by
    rw [hc]
    unfold newContext
    cases p.entry <;> rfl
  have hexpiry : settleExpiryOf c =
      if p.entry = .settling then some ((s.clock.time : Int) + 1000 * c.policy.settle) else none := by
    rw [hc]
    cases p.entry <;> rfl
  have hversion : c.version = s.settings.cal[n].version := by rw [hc]
  have hatt : Attentive { s with
      table := openStation p s.table
      occ := { s.occ with active := s.occ.active.set n (some c) } } := ht.1.congr rfl rfl rfl rfl rfl rfl rfl
  have hact : actOccOpen h p s = passSettle n
      (answered h .occOpen .done (.opened (findStation s.table p.station).isSome s.settings.cal[n].version p.entry
        (if p.entry = .settling then some ((s.clock.time : Int) + 1000 * c.policy.settle) else none))
        { s with
          table := openStation p s.table
          occ := { s.occ with active := s.occ.active.set n (some c) } }) := by
    rw [← hexpiry, ← hversion, ← done_room hatt.2.2.2]
    simp only [actOccOpen, hn, headOf_val, hnew]
    rfl
  refine ⟨openStation p s.table, _, rfl, fun hheld => ?_, fun _ => ?_, hknown, hlearned, hothers⟩
  · refine exec_answers_done rfl ht (handleFrame_occOpen ..) hg (hact.trans (passSettle_not_settling (c := c) ?_ ?_)) hatt
    · exact vget_set_self ..
    · rw [hexpiry, hheld]
      rfl
  · rw [exec_acts_drains rfl ht (handleFrame_occOpen ..) hg (by rw [actOccOpen_link]; exact ht.1.1), hact]

/-- Settles O48: the grounds of R80 and R69 in order, then the context and its station's record. -/
theorem occOpenIsTestedAndCreatesTheContext : Obligations.OccOpenIsTestedAndCreatesTheContext :=
  ⟨occOpenIsRefusedInOrder, occOpenCreatesTheContext⟩

/-! ## OCC_HOLD and OCC_RELEASE (R90 to R93) -/

theorem handleFrame_occHold (h : Header) (b : Body Nat) (s : State) :
    handleFrame (.occHold h b) s = command .occHold h b groundOccHold (actOccHold h) s := rfl

theorem handleFrame_occRelease (h : Header) (b : Body Nat) (s : State) :
    handleFrame (.occRelease h b) s = command .occRelease h b groundOccRelease (actOccRelease h) s := rfl

theorem attentive_leaveList {s : State} (h : Attentive s) (c : Context) : Attentive (leaveList c s) := by
  obtain ⟨g, hg⟩ := leaveList_frame c s
  rw [hg]
  exact h.congr rfl rfl rfl rfl rfl rfl rfl

theorem occHoldHoldsAGatheringContext : Claim.OccHoldHoldsAGatheringContext := by
  intro h tag s ht
  refine ⟨fun hzero => exec_refuses rfl ht (handleFrame_occHold ..) (if_pos hzero), fun hne hnone =>
    exec_refuses rfl ht (handleFrame_occHold ..) (by simp only [groundOccHold, hne, if_false, hnone]), fun q c hne hf => ?_⟩
  have hground : groundOccHold tag s = if gathering c then none else some .wrongState := by
    simp only [groundOccHold, hne, if_false, hf]
  refine ⟨fun hg => exec_refuses rfl ht (handleFrame_occHold ..) (hground.trans (if_neg (by simp [hg]))), fun n hq hg => ?_⟩
  subst hq
  refine exec_done rfl ht (handleFrame_occHold ..) (hground.trans (if_pos hg)) ?_
    (attentive_leaveList (by exact ht.1.congr rfl rfl rfl rfl rfl rfl rfl) c)
  simp only [actOccHold, hf]
  rfl

theorem occReleaseReleasesAHeldContext : Claim.OccReleaseReleasesAHeldContext := by
  intro h tag s ht
  refine ⟨fun hzero => exec_refuses rfl ht (handleFrame_occRelease ..) (if_pos hzero), fun hne hnone =>
    exec_refuses rfl ht (handleFrame_occRelease ..) (by simp only [groundOccRelease, hne, if_false, hnone]), fun q c hne hf => ?_⟩
  have hground : groundOccRelease tag s =
      if c.state = .held .stale then some .stale else if isHeld c then none else some .wrongState := by
    simp only [groundOccRelease, hne, if_false, hf]
  refine ⟨fun hst => exec_refuses rfl ht (handleFrame_occRelease ..) (hground.trans (if_pos hst)), fun hnot => ?_,
    fun n w hq hw hns => ?_⟩
  · have hheld : ¬ isHeld c = true := by
      rw [isHeld_iff]
      rintro ⟨w, hw⟩
      exact hnot w hw
    refine exec_refuses rfl ht (handleFrame_occRelease ..) (hground.trans ?_)
    rw [if_neg (hnot _), if_neg hheld]
  · subst hq
    have hpass : groundOccRelease tag s = none := by
      rw [hground, if_neg (by rw [hw]; simpa using hns), if_pos (isHeld_iff.mpr ⟨w, hw⟩)]
    have hact : actOccRelease h tag s = releaseHeld n c (answered h .occRelease .done .none s) := by
      simp only [actOccRelease, hf, done_room ht.1.2.2.2]
    refine ⟨fun hre => ?_, fun hre => ?_⟩
    · rw [exec_acts_drains rfl ht (handleFrame_occRelease ..) hpass (by rw [actOccRelease_link]; exact ht.1.1), hact, releaseHeld,
        if_pos hre]
      rfl
    · refine exec_answers_done rfl ht (handleFrame_occRelease ..) hpass (hact.trans ?_) (ht.1.congr rfl rfl rfl rfl rfl rfl rfl)
      rw [releaseHeld, if_neg (by simp [hre])]
      rfl

/-- Settles O49: a hold takes a gathering context into HELD(COMMAND), a release takes a held one where its policy says. -/
theorem contextsAreHeldAndReleased : Obligations.ContextsAreHeldAndReleased :=
  ⟨occHoldHoldsAGatheringContext, occReleaseReleasesAHeldContext⟩

end Sys2Proof.Machine
end

section
/-! PROOFS. Contexts that complete, are closed, aborted, parked, cloned and resumed (chapters 5 and 6): O50, O51, O52. -/

namespace Sys2Proof.Machine

-- One theorem at a time: side by side, the proofs ask for more threads than the check's memory limit has stacks for.
set_option Elab.async false

/-! ## What an operation reads (R37, R62, R137) -/

theorem leaveList_groups_congr {s t : State} (h : t.groups = s.groups) (c : Context) : (leaveList c t).groups = (leaveList c s).groups := by
  unfold leaveList
  split
  · exact h
  · rename_i g _
    dsimp only
    rw [h]
    split
    · change t.groups.set g _ = s.groups.set g _
      rw [h]
    · exact h

theorem unbindTag_corr_congr {s t : State} (h : t.corr = s.corr) (tag : Nat) : (unbindTag tag t).corr = (unbindTag tag s).corr := by
  unfold unbindTag
  rw [h]
  split
  · exact h
  · split
    · rfl
    · exact h

/-- A context that has left its list leaves no list. -/
theorem leaveList_left {c d : Context} (ht : d.tag = c.tag) (hg : d.group = c.group) {s t : State}
    (h : t.groups = (leaveList c s).groups) : (leaveList d t).groups = t.groups := by
  rw [leaveList_congr ht hg]
  cases hgroup : c.group with
  | none => rw [leaveList_alone hgroup]
  | some g =>
    refine congrArg State.groups (leaveList_absent hgroup ?_)
    rw [h]
    by_cases hm : c.tag ∈ s.groups[g].arrivals
    · rw [leaveList_present hgroup hm]
      change c.tag ∉ (s.groups.set g _)[g].arrivals
      rw [vget_set_self]
      simp
    · rw [leaveList_absent hgroup hm]
      exact hm

/-! ## Freeing (R99, R116) -/

theorem freeActive_eq (n : Head) (c : Context) (s : State) : freeActive n c s =
    { s with
      occ := { s.occ with active := s.occ.active.set n none, waiting := s.occ.waiting.filter fun m => m != n }
      groups := (leaveList c s).groups
      table := updateStation c.station dropReference s.table
      corr := (unbindTag c.tag s).corr } := by
  obtain ⟨g, hg⟩ := leaveList_frame c s
  obtain ⟨k, hk⟩ := unbindTag_frame c.tag (dropStation c.station (leaveList c s))
  have hcorr : (unbindTag c.tag (dropStation c.station (leaveList c s))).corr = (unbindTag c.tag s).corr :=
    unbindTag_corr_congr (by rw [hg]; rfl) c.tag
  have hgroups : (leaveList c s).groups = g := by rw [hg]
  rw [hk] at hcorr
  rw [← hcorr, hgroups]
  unfold freeActive
  dsimp only
  rw [hk, hg]
  rfl

theorem freeStored_eq (k : StoreSlotId) (c : Context) (s : State) : freeStored k c s =
    { s with
      occ := { s.occ with store := s.occ.store.set k none }
      table := updateStation c.station dropReference s.table
      corr := (unbindTag c.tag s).corr } := by
  obtain ⟨x, hx⟩ := unbindTag_frame c.tag (dropStation c.station s)
  have hcorr : (unbindTag c.tag (dropStation c.station s)).corr = (unbindTag c.tag s).corr := unbindTag_corr_congr (by rfl) c.tag
  rw [hx] at hcorr
  rw [← hcorr]
  unfold freeStored
  rw [hx]
  rfl

/-! ## Completing (R96, R98) -/

/-- A context that has entered COMPLETE. -/
def completed (t : Nat) (r : CompletionReason) (c : Context) : Context :=
  { c with
    state := .complete r
    acc := { leaveState t c with completion := some t } }

theorem enterComplete_eq (n : Head) (c : Context) (r : CompletionReason) (s : State) : enterComplete n c r s =
    { s with
      occ := { s.occ with
        active := s.occ.active.set n (some (completed s.clock.time r c))
        waiting := s.occ.waiting ++ [n] }
      groups := (leaveList c s).groups } := by
  have hgroups := leaveList_setActive c n (some (completed s.clock.time r c)) s
  obtain ⟨g, hg⟩ := leaveList_frame c (setActive n (some (completed s.clock.time r c)) s)
  rw [hg] at hgroups
  rw [← hgroups]
  change { leaveList c (setActive n (some (completed s.clock.time r c)) s) with
    occ := { (leaveList c (setActive n (some (completed s.clock.time r c)) s)).occ with
      waiting := (leaveList c (setActive n (some (completed s.clock.time r c)) s)).occ.waiting ++ [n] } } = _
  rw [hg]
  rfl

theorem joinReading_joins {n : Head} {c : Context} {r : CompletionReason} {rest : List Head} {s : State}
    (hw : s.occ.waiting = n :: rest) (hc : s.occ.active[n] = some c) (hst : c.state = .complete r) (hroom : RoomFor 1 s)
    (hr : s.sys.restartPending = false) : joinReading s = freeActive n c (told (.reading (makeReading c r)) s) := by
  have hreason : completionReason c = some r := by simp only [completionReason, hst]
  have hentry := hasEntry_of_room Nat.one_pos hroom hr
  simp only [joinReading, hw, hentry, if_true, hc, hreason, join_told Nat.one_pos hroom]

/-- A context completes, no other reading waiting: with an entry free its reading joins and it is freed. -/
theorem complete_joins {n : Head} {c : Context} (r : CompletionReason) {s : State} (hw : s.occ.waiting = [])
    (hroom : RoomFor 1 s) (hr : s.sys.restartPending = false) : complete n c r s =
      told (.reading (makeReading (completed s.clock.time r c) r))
        { s with
          occ := { s.occ with active := s.occ.active.set n none }
          groups := (leaveList c s).groups
          table := updateStation c.station dropReference s.table
          corr := (unbindTag c.tag s).corr } := by
  have henter := enterComplete_eq n c r s
  rw [hw, List.nil_append] at henter
  have hjoin : joinReading (enterComplete n c r s) = told (.reading (makeReading (completed s.clock.time r c) r))
        { s with
          occ := { s.occ with active := s.occ.active.set n none }
          groups := (leaveList c s).groups
          table := updateStation c.station dropReference s.table
          corr := (unbindTag c.tag s).corr } := by
    rw [joinReading_joins (n := n) (c := completed s.clock.time r c) (r := r) (rest := []) (by rw [henter])
      (by rw [henter]; exact vget_set_self ..) rfl (by rw [henter]; exact hroom.congr rfl rfl rfl) (by rw [henter]; exact hr),
      freeActive_eq]
    have hgroups : (leaveList (completed s.clock.time r c) (told (.reading (makeReading (completed s.clock.time r c) r))
        (enterComplete n c r s))).groups = (leaveList c s).groups := by
      have hkept : (told (.reading (makeReading (completed s.clock.time r c) r)) (enterComplete n c r s)).groups =
          (leaveList c s).groups := by
        rw [henter]
        rfl
      exact (leaveList_left (c := c) (s := s) rfl rfl hkept).trans hkept
    have hcorr : (unbindTag (completed s.clock.time r c).tag (told (.reading (makeReading (completed s.clock.time r c) r))
        (enterComplete n c r s))).corr = (unbindTag c.tag s).corr := unbindTag_corr_congr (by rw [henter]; rfl) c.tag
    have hset : (s.occ.active.set n (some (completed s.clock.time r c))).set n none = s.occ.active.set n none := Vector.set_set ..
    have hfilter : [n].filter (fun m => m != n) = [] := by simp
    rw [hgroups, hcorr, henter]
    unfold told
    dsimp only
    rw [hset, hfilter, ← hw]
    rfl
  have hnone : (joinReading (enterComplete n c r s)).occ.waiting = [] := by
    rw [hjoin]
    exact hw
  unfold complete offerReadings
  rw [joinReading_none hnone, joinReading_none hnone, joinReading_none hnone, hjoin]

/-- A context completes with no entry free: its reading waits. -/
theorem complete_waits {n : Head} {c : Context} (r : CompletionReason) {s : State} (h : hasEntry s = false) :
    complete n c r s = enterComplete n c r s := by
  refine offerReadings_refused ?_
  rw [enterComplete_eq]
  exact h

/-! ## OCC_CLOSE (R97, R116) -/

theorem handleFrame_occClose (h : Header) (b : Body Nat) (s : State) :
    handleFrame (.occClose h b) s = command .occClose h b groundOccClose (actOccClose h) s := rfl

theorem answered_full {h : Header} {k : Kind} {st : Status} {d : ReplyData} {s : State} (hl : s.out.queue.length = 47) :
    hasEntry (answered h k st d s) = false := by
  rw [← Bool.not_eq_true, hasEntry_iff]
  rintro ⟨hlt, -⟩
  have hq : (answered h k st d s).out.queue.length = s.out.queue.length + 1 := by
    rw [answered, told_queue, List.length_append]
    rfl
  omega

theorem occCloseCompletesAnActiveContext : Claim.OccCloseCompletesAnActiveContext := by
  intro h tag s ht
  refine ⟨fun hzero => exec_refuses rfl ht (handleFrame_occClose ..) (if_pos hzero), fun hne hnone =>
    exec_refuses rfl ht (handleFrame_occClose ..) (by simp only [groundOccClose, hne, if_false, hnone]), fun n c d hne hf => ?_⟩
  refine ⟨fun w hw => exec_refuses rfl ht (handleFrame_occClose ..) ?_, fun hnot hwaiting hd => ?_⟩
  · have hsome : (completionReason c).isSome = true := by simp only [completionReason, hw, Option.isSome_some]
    simp only [groundOccClose, hne, if_false, hf, hsome, if_true]
  · have hground : groundOccClose tag s = none := by
      have hreason : completionReason c = none := completionReason_eq_none.mpr fun ⟨w, hw⟩ => hnot w hw
      simp only [groundOccClose, hne, if_false, hf, hreason, Option.isSome_none, Bool.false_eq_true]
    have hact : actOccClose h tag s = complete n c .command (answered h .occClose .done .none s) := by
      simp only [actOccClose, hf, done_room ht.1.2.2.2]
    have hgroups : (leaveList c (answered h .occClose .done .none s)).groups = (leaveList c s).groups := leaveList_groups_congr (by rfl) c
    refine ⟨fun hroom => ?_, fun hfull => ?_⟩
    · have hcorr : (unbindTag c.tag (answered h .occClose .done .none s)).corr = (unbindTag c.tag s).corr := unbindTag_corr_congr (by rfl) _
      have hdone : actOccClose h tag s = told (.reading (makeReading d .command)) (answered h .occClose .done .none
            { s with
              occ := { s.occ with active := s.occ.active.set n none }
              groups := (leaveList c s).groups
              table := updateStation c.station dropReference s.table
              corr := (unbindTag c.tag s).corr }) := by
        rw [hact, complete_joins (s := answered h .occClose .done .none s) .command hwaiting (room_told hroom _) ht.1.2.1, hgroups, hcorr, hd]
        rfl
      rw [exec_acts rfl ht (handleFrame_occClose ..) hground (by rw [hdone]; exact ht.1.1)
        (by rw [hdone]; exact quiet_congr rfl rfl ht.1.2.2.1), hdone]
    · refine exec_answers_done rfl ht (handleFrame_occClose ..) hground (hact.trans ?_) (ht.1.congr rfl rfl rfl rfl rfl rfl rfl)
      rw [complete_waits .command (answered_full hfull), enterComplete_eq, hgroups, hd]
      have hone : (answered h .occClose .done .none s).occ.waiting ++ [n] = [n] := by
        rw [show (answered h .occClose .done .none s).occ.waiting = [] from hwaiting, List.nil_append]
      rw [hone]
      rfl

theorem twoFree_iff {s : State} : twoFree s = true ↔ s.out.queue.length + 2 ≤ 48 := decide_eq_true_iff

theorem occCloseEndsAParkedContext : Claim.OccCloseEndsAParkedContext := by
  intro h tag s k c ht hne hf
  have hground : groundOccClose tag s = if twoFree s then none else some .busy := by
    simp only [groundOccClose, hne, if_false, hf]
  refine ⟨fun hfull => exec_refuses rfl ht (handleFrame_occClose ..) (hground.trans (if_neg ?_)), fun hroom => ?_⟩
  · rw [twoFree_iff]
    omega
  · have hact : actOccClose h tag s = told (.reading (parkedReading s.clock.time c)) (answered h .occClose .done .none
          { s with
            occ := { s.occ with store := s.occ.store.set k none }
            table := updateStation c.station dropReference s.table
            corr := (unbindTag c.tag s).corr }) := by
      simp only [actOccClose, hf, done_room ht.1.2.2.2]
      rw [join_told Nat.one_pos (by exact room_told hroom _), freeStored_eq,
        unbindTag_corr_congr (s := s) (t := told _ (answered h .occClose .done .none s)) rfl]
      rfl
    rw [exec_acts rfl ht (handleFrame_occClose ..) (hground.trans (if_pos (twoFree_iff.mpr hroom.1)))
      (by rw [hact]; exact ht.1.1) (by rw [hact]; exact quiet_congr rfl rfl ht.1.2.2.1), hact]
    rfl

/-! ## OCC_ABORT (R100, R117) -/

theorem handleFrame_occAbort (h : Header) (b : Body Nat) (s : State) :
    handleFrame (.occAbort h b) s = command .occAbort h b groundTag (actOccAbort h) s := rfl

theorem occAbortFreesTheContext : Claim.OccAbortFreesTheContext := by
  intro h tag s ht
  refine ⟨fun hzero => exec_refuses rfl ht (handleFrame_occAbort ..) (if_pos hzero), fun hne hnone =>
    exec_refuses rfl ht (handleFrame_occAbort ..) (groundTag_absent hne hnone), fun q c hne hf hroom => ?_⟩
  have hnotes {t : State} (hfree : freeAt (q, c) s = t) (hroomt : RoomFor 2 t) (hl : t.link.intake = s.link.intake)
      (hr : t.sys.restartPending = s.sys.restartPending) (he : t.events = s.events) (hs : t.settings = s.settings) :
      exec (.occAbort h (.ok tag)) s = .next (noted (.aborted c.tag c.head c.station (stateName c.state) c.acc.accepted)
        (answered h .occAbort .done .none t)) := by
    refine exec_notes rfl ht (handleFrame_occAbort ..) (groundTag_present hne hf) ?_ hl hr he (by rw [← hs]; rfl) (room_told hroomt _)
    simp only [actOccAbort, hf, hfree, done_room (hroomt.mono (by decide))]
  refine ⟨fun n hq => ?_, fun k hq => ?_⟩
  · subst hq
    exact hnotes (freeActive_eq n c s) (hroom.congr rfl rfl rfl) rfl rfl rfl rfl
  · subst hq
    exact hnotes (freeStored_eq k c s) (hroom.congr rfl rfl rfl) rfl rfl rfl rfl

/-- Settles O50: a close completes or ends a context with its reading, an abort frees it without one. -/
theorem contextsAreClosedAndAborted : Obligations.ContextsAreClosedAndAborted :=
  ⟨occCloseCompletesAnActiveContext, occCloseEndsAParkedContext, occAbortFreesTheContext⟩

end Sys2Proof.Machine
end

section
/-! PROOFS. Contexts that are parked, cloned and become active again (chapter 6): O51, O52. -/

namespace Sys2Proof.Machine

-- One theorem at a time: side by side, the proofs ask for more threads than the check's memory limit has stacks for.
set_option Elab.async false

/-! ## OCC_PARK (R106 to R108) -/

theorem handleFrame_occPark (h : Header) (b : Body Nat) (s : State) :
    handleFrame (.occPark h b) s = command .occPark h b groundOccPark (actOccPark h) s := rfl

theorem notParkable_iff {c : Context} : notParkable c = true ↔ c.state = .parked ∨ ∃ w, c.state = .complete w := by
  unfold notParkable gathering isHeld
  cases c.state <;> simp

theorem notParkable_eq_false {c : Context} (hp : c.state ≠ .parked) (hc : ∀ w, c.state ≠ .complete w) : notParkable c = false := by
  rw [← Bool.not_eq_true, notParkable_iff]
  rintro (h | ⟨w, hw⟩)
  · exact hp h
  · exact hc w hw

theorem emptyStoreSlot_eq_none {o : Occupations} (h : ∀ k : StoreSlotId, o.store[k].isSome) : emptyStoreSlot o = none := by
  refine List.find?_eq_none.mpr fun k _ => ?_
  rw [Option.isNone_iff_eq_none, ← Option.isSome_iff_ne_none.not_left]
  exact fun hn => hn (h k)

theorem emptyStoreSlot_eq_some {o : Occupations} {k : StoreSlotId} (hk : o.store[k] = none) (h : ∀ j < k, o.store[j].isSome) :
    emptyStoreSlot o = some k :=
  find?_eq_first (by decide) (mem_storeSlots k) (by rw [hk]; rfl) fun j hj hnone => by
    rw [Option.isNone_iff_eq_none] at hnone
    simpa [hnone] using h j hj

theorem park_eq (n : Head) (k : StoreSlotId) (c : Context) (s : State) : park n k c s =
    { s with
      occ := { s.occ with
        active := s.occ.active.set n none
        store := s.occ.store.set k (some { c with state := .parked, acc := leaveState s.clock.time c }) }
      groups := (leaveList c s).groups } := by
  obtain ⟨g, hg⟩ := leaveList_frame c s
  unfold park
  rw [hg]
  rfl

theorem occParkMovesAContextIntoTheStore : Claim.OccParkMovesAContextIntoTheStore := by
  intro h tag s ht
  refine ⟨fun hzero => exec_refuses rfl ht (handleFrame_occPark ..) (if_pos hzero), fun hne hnone =>
    exec_refuses rfl ht (handleFrame_occPark ..) (by simp only [groundOccPark, hne, if_false, hnone]), fun q c hne hf => ?_⟩
  have hground : groundOccPark tag s =
      if notParkable c then some .wrongState else if (emptyStoreSlot s.occ).isNone then some .full else none := by
    simp only [groundOccPark, hne, if_false, hf]
  refine ⟨fun hwrong => exec_refuses rfl ht (handleFrame_occPark ..) (hground.trans (if_pos (notParkable_iff.mpr hwrong))),
    fun hp hc => ?_⟩
  rw [notParkable_eq_false hp hc, if_neg Bool.false_ne_true] at hground
  refine ⟨fun hfull => exec_refuses rfl ht (handleFrame_occPark ..) (hground.trans ?_), fun n k hq hk hlow => ?_⟩
  · rw [emptyStoreSlot_eq_none hfull]
    rfl
  · subst hq
    have hslot := emptyStoreSlot_eq_some hk hlow
    refine exec_done rfl ht (handleFrame_occPark ..) (hground.trans (by rw [hslot]; rfl)) ?_ (ht.1.congr rfl rfl rfl rfl rfl rfl rfl)
    rw [← park_eq]
    simp only [actOccPark, hf, hslot]
    rfl

/-! ## OCC_CLONE (R114, R115) -/

theorem handleFrame_occClone (h : Header) (b : Body OccCloneParams) (s : State) :
    handleFrame (.occClone h b) s = command .occClone h b groundOccClone (actOccClone h) s := rfl

theorem occCloneCopiesTheSource : Claim.OccCloneCopiesTheSource := by
  intro h p s ht
  refine ⟨fun hbad => ?bad, fun n hn hsrc htag hmax => ?tested⟩
  case bad =>
    refine exec_refuses rfl ht (handleFrame_occClone ..) ?_
    unfold groundOccClone
    split
    · rfl
    · rename_i n hn
      refine if_pos ?_
      obtain hbad | hbad | hbad := hbad
      · exact .inl hbad
      · exact .inr (.inl hbad)
      · rw [headOf_eq_none hbad] at hn
        exact absurd hn (Option.some_ne_none n).symm
  case tested =>
    have hrange : ¬ (p.source = 0 ∨ p.tag = 0 ∨ 65535 < p.tag) := by omega
    have hground : groundOccClone p s =
        if (findTag s.occ p.source).isNone then some .notFound
        else if (findTag s.occ p.tag).isSome then some .existing
        else if isLive s.ports[n] = false then some .wrongState
        else if s.occ.active[n].isSome then some .inUse
        else none := by
      simp only [groundOccClone, hn, headOf_val, hrange, if_false]
    refine ⟨fun hnone => exec_refuses rfl ht (handleFrame_occClone ..) (hground.trans (by rw [hnone]; rfl)), fun q c hf => ?_⟩
    rw [hf, if_neg (by exact Bool.false_ne_true)] at hground
    refine ⟨fun hex => exec_refuses rfl ht (handleFrame_occClone ..) (hground.trans (if_pos hex)), fun hnew => ?_⟩
    rw [hnew, if_neg (by decide)] at hground
    refine ⟨fun hlive => exec_refuses rfl ht (handleFrame_occClone ..) (hground.trans (if_pos (isLive_eq_false hlive))),
      fun e he => ?_⟩
    rw [isLive_of_live he, if_neg (by decide)] at hground
    refine ⟨fun hused => exec_refuses rfl ht (handleFrame_occClone ..) (hground.trans (if_pos hused)), fun hvacant => ?_⟩
    have hpass : groundOccClone p s = none := hground.trans (by rw [hvacant]; rfl)
    rw [exec_acts_drains rfl ht (handleFrame_occClone ..) hpass (by rw [actOccClone_link]; exact ht.1.1)]
    simp only [actOccClone, hn, headOf_val, hf]
    rw [done_room (by exact ht.1.2.2.2.congr rfl rfl rfl)]
    rfl

/-- Settles O51: a context moves into the lowest-numbered empty store slot; a clone starts anew on a vacant LIVE head. -/
theorem contextsAreParkedAndCloned : Obligations.ContextsAreParkedAndCloned :=
  ⟨occParkMovesAContextIntoTheStore, occCloneCopiesTheSource⟩

/-! ## Becoming active again (R109) -/

theorem staleAtResume_iff {v : Nat} {c : Context} : staleAtResume v c = true ↔ c.version ≠ v ∨ c.flags.stale = true := by
  simp only [staleAtResume, Bool.or_eq_true, decide_eq_true_eq]

theorem staleAtResume_eq_false {v : Nat} {c : Context} (hv : c.version = v) (hs : c.flags.stale = false) : staleAtResume v c = false := by
  rw [← Bool.not_eq_true, staleAtResume_iff]
  simp [hv, hs]

section
variable {t v : Nat} {c : Context}

theorem resumed_stale (h : c.version ≠ v ∨ c.flags.stale = true) : resumed t v c = stale c := by
  unfold resumed
  rw [if_pos (staleAtResume_iff.mpr h)]

theorem resumed_settling (hv : c.version = v) (hs : c.flags.stale = false) (hr : c.policy.resume = .settling) :
    resumed t v c = settled t c := by
  simp only [resumed, staleAtResume_eq_false hv hs, Bool.false_eq_true, if_false, hr]

theorem resumed_held (hv : c.version = v) (hs : c.flags.stale = false) (hr : c.policy.resume = .held) :
    resumed t v c = { c with state := .held .command } := by
  simp only [resumed, staleAtResume_eq_false hv hs, Bool.false_eq_true, if_false, hr]

end

theorem resumedContextsMeetTheCalibration : Claim.ResumedContextsMeetTheCalibration := fun _ _ _ =>
  ⟨resumed_stale, fun hv hs => ⟨resumed_settling hv hs, resumed_held hv hs⟩⟩

/-- What follows the reply of a command that made a context active (R109, R82). -/
theorem exec_resumes {α : Type} {k : Kind} {h : Header} {i : Instr} {ground : α → State → Option Status} {act : α → State → State}
    {s t a : State} {x : α} {data : ReplyData} {c : Context} {n : Head} {v : Nat} (hi : i.isFrame = true) (ht : Taken k h s)
    (hf : handleFrame i s = command k h (.ok x) ground act s) (hg : ground x s = none) (ha : a = answered h k .done data t)
    (hact : act x s = afterResume c v a) (hlink : (act x s).link = s.link) (hatt : Attentive t) (hn : c.head = n)
    (hc : t.occ.active[n] = some (resumed s.clock.time v c)) :
    ((c.version ≠ v ∨ c.flags.stale = true) → RoomFor 2 t →
      exec i s = .next (noted (.contextStale c.tag c.head c.version v false) a)) ∧
    (c.version = v → c.flags.stale = false → c.policy.resume = .held → exec i s = .next a) ∧
    (c.version = v → c.flags.stale = false → c.policy.resume = .settling → exec i s = .next (drain (passSettle n a))) := by
  subst hn
  refine ⟨fun hst hroom => ?_, fun hv hs hheld => ?_, fun hv hs _ => ?_⟩
  · have hnotes : act x s = noted (.contextStale c.tag c.head c.version v false) a := by
      rw [hact, afterResume, if_pos (staleAtResume_iff.mpr hst), ha,
        offerNotice_room (by exact room_told hroom _) (by exact hatt.2.1)]
    rw [exec_acts hi ht hf hg (by rw [hlink]; exact ht.1.1)
      (by rw [hnotes, ha]; exact quiet_congr rfl rfl hatt.2.2.1), hnotes]
  · have hstay : act x s = a := by
      rw [hact, afterResume, staleAtResume_eq_false hv hs, if_neg Bool.false_ne_true, ha]
      exact passSettle_not_settling (c := resumed s.clock.time v c) hc (by rw [resumed_held hv hs hheld]; rfl)
    rw [ha] at hstay ⊢
    exact exec_answers_done hi ht hf hg hstay hatt
  · rw [exec_acts_drains hi ht hf hg (by rw [hlink]; exact ht.1.1), hact, afterResume, staleAtResume_eq_false hv hs,
      if_neg Bool.false_ne_true]

/-! ## OCC_UNPARK (R110, R111) -/

theorem handleFrame_occUnpark (h : Header) (b : Body Nat) (s : State) :
    handleFrame (.occUnpark h b) s = command .occUnpark h b groundOccUnpark (actOccUnpark h) s := rfl

theorem occUnparkMakesAContextActive : Claim.OccUnparkMakesAContextActive := by
  intro h tag s ht
  refine ⟨fun hzero => exec_refuses rfl ht (handleFrame_occUnpark ..) (if_pos hzero), fun hne hnone =>
    exec_refuses rfl ht (handleFrame_occUnpark ..) (by simp only [groundOccUnpark, hne, if_false, hnone]), fun n c hne hf =>
    exec_refuses rfl ht (handleFrame_occUnpark ..) (by simp only [groundOccUnpark, hne, if_false, hf]), fun k c hne hf => ?_⟩
  have hground : groundOccUnpark tag s =
      if isLive s.ports[c.head] = false then some .wrongState
      else if s.occ.active[c.head].isSome then some .inUse
      else none := by
    simp only [groundOccUnpark, hne, if_false, hf]
  refine ⟨fun hlive => exec_refuses rfl ht (handleFrame_occUnpark ..) (hground.trans (if_pos (isLive_eq_false hlive))), fun e he => ?_⟩
  rw [isLive_of_live he, if_neg (by decide)] at hground
  refine ⟨fun hused => exec_refuses rfl ht (handleFrame_occUnpark ..) (hground.trans (if_pos hused)), fun hvacant v d a hv hd ha => ?_⟩
  have hatt : Attentive { s with
      occ := { s.occ with
        active := s.occ.active.set c.head (some d)
        store := s.occ.store.set k none }
      table := updateStation c.station (markUsed 0) s.table } := ht.1.congr rfl rfl rfl rfl rfl rfl rfl
  have hact : actOccUnpark h tag s = afterResume c v a := by
    rw [ha, ← done_room hatt.2.2.2, hd, hv]
    simp only [actOccUnpark, hf]
    rfl
  obtain ⟨hstale, hheld, hsettling⟩ := exec_resumes (n := c.head) rfl ht (handleFrame_occUnpark ..)
    (hground.trans (by rw [hvacant]; rfl)) ha hact (actOccUnpark_link ..) hatt rfl (by rw [← hd]; exact vget_set_self ..)
  exact ⟨fun hst hroom => hstale hst (hroom.congr rfl rfl rfl), hheld, hsettling⟩

/-! ## OCC_SWAP (R112, R113) -/

theorem handleFrame_occSwap (h : Header) (b : Body OccSwapParams) (s : State) :
    handleFrame (.occSwap h b) s = command .occSwap h b groundOccSwap (actOccSwap h) s := rfl

theorem occSwapExchangesTwoContexts : Claim.OccSwapExchangesTwoContexts := by
  intro h p s ht
  refine ⟨fun hbad => exec_refuses rfl ht (handleFrame_occSwap ..) (if_pos hbad), fun ha hp hne =>
    ⟨fun hnone => ?absent, fun x y a b hx hy => ?present⟩⟩
  case absent =>
    have hok : ¬ (p.active = 0 ∨ p.parked = 0 ∨ p.active = p.parked) := by simp [ha, hp, hne]
    refine exec_refuses rfl ht (handleFrame_occSwap ..) ?_
    unfold groundOccSwap
    rw [if_neg hok]
    obtain hnone | hnone := hnone
    · rw [hnone]
    · rw [hnone]
      cases findTag s.occ p.active <;> rfl
  case present =>
    have hground : groundOccSwap p s =
        if notParkable a then some .wrongState
        else if (slotOf y).isNone then some .wrongState
        else if a.head ≠ b.head then some .wrongHead
        else none := by
      have hok : ¬ (p.active = 0 ∨ p.parked = 0 ∨ p.active = p.parked) := by simp [ha, hp, hne]
      simp only [groundOccSwap, hok, if_false, hx, hy]
    refine ⟨fun hwrong => exec_refuses rfl ht (handleFrame_occSwap ..) ?_, fun n k hxn hyk hnp hnc => ?_⟩
    · rw [hground]
      by_cases hpark : notParkable a = true
      · rw [if_pos hpark]
      · have hy' : (slotOf y).isNone = true := by
          rw [notParkable_iff] at hpark
          obtain h1 | h1 | ⟨n, rfl⟩ := hwrong
          · exact absurd (.inl h1) hpark
          · exact absurd (.inr h1) hpark
          · rfl
        rw [if_neg hpark, if_pos hy']
    · subst hxn hyk
      rw [notParkable_eq_false hnp hnc, if_neg Bool.false_ne_true, if_neg (by exact Bool.false_ne_true)] at hground
      refine ⟨fun hhead => exec_refuses rfl ht (handleFrame_occSwap ..) (hground.trans (if_pos hhead)), fun hhead hbn v d t hv hd heq => ?_⟩
      subst hbn
      have hatt : Attentive { s with
          occ := { s.occ with
            active := s.occ.active.set b.head (some d)
            store := s.occ.store.set k (some { a with state := .parked, acc := leaveState s.clock.time a }) }
          groups := (leaveList a s).groups
          table := updateStation b.station (markUsed 0) s.table } := ht.1.congr rfl rfl rfl rfl rfl rfl rfl
      have hactivate : activate b (park b.head k a s) = { s with
          occ := { s.occ with
            active := s.occ.active.set b.head (some d)
            store := s.occ.store.set k (some { a with state := .parked, acc := leaveState s.clock.time a }) }
          groups := (leaveList a s).groups
          table := updateStation b.station (markUsed 0) s.table } := by
        have hset : (s.occ.active.set b.head none).set b.head (some d) = s.occ.active.set b.head (some d) := Vector.set_set ..
        rw [park_eq, ← hset, hd, hv]
        rfl
      have hact : actOccSwap h p s = afterResume b v t := by
        rw [heq, ← done_room hatt.2.2.2, ← hactivate, hd, hv]
        simp only [actOccSwap, hx, hy]
        rfl
      obtain ⟨hstale, hheld, hsettling⟩ := exec_resumes (n := b.head) rfl ht (handleFrame_occSwap ..)
        (hground.trans (if_neg (by simp [hhead]))) heq hact (actOccSwap_link ..) hatt rfl (by rw [← hd]; exact vget_set_self ..)
      exact ⟨fun hst hroom => hstale hst (hroom.congr rfl rfl rfl), hheld, hsettling⟩

/-- Settles O52: a parked context meets its head's calibration and becomes active, alone or in exchange for the active one. -/
theorem parkedContextsBecomeActive : Obligations.ParkedContextsBecomeActive :=
  ⟨resumedContextsMeetTheCalibration, occUnparkMakesAContextActive, occSwapExchangesTwoContexts⟩

end Sys2Proof.Machine
end

section
/-! PROOFS. The arbiter, the computation of a correction, and the gates (R12 to R14, R29 to R36, R84, R85): O54, O55, O28. -/

namespace Sys2Proof.Machine

-- One theorem at a time: side by side, the proofs ask for more threads than the check's memory limit has stacks for.
set_option Elab.async false

/-! ## The arbiter (R12 to R14) -/

theorem arbiterChoosesTheNextHead : Claim.ArbiterChoosesTheNextHead := by
  intro s pending hpending
  obtain rfl : pending = waitsForGrant s := funext hpending
  refine ⟨fun hnone => ?first, fun l hl => ⟨fun hmode => ?rotating, fun hmode => ?fixed⟩⟩
  case first =>
    unfold grantChoice rotatingChoice fixedChoice
    rw [hnone]
    cases s.settings.arbMode <;> rfl
  case rotating =>
    simp only [grantChoice, hmode, rotatingChoice, hl]
    rfl
  case fixed =>
    have hchoice : grantChoice s = if s.settings.arbLimit ≤ s.corr.service ∧ (headsAfter l).any (waitsForGrant s) = true then
        (headsAfter l).find? (waitsForGrant s) else heads.find? (waitsForGrant s) := by
      simp only [grantChoice, hmode, fixedChoice, hl]
    refine ⟨fun hlimit hany => hchoice.trans (if_pos ⟨hlimit, hany⟩), fun hcase => hchoice.trans (if_neg ?_)⟩
    rintro ⟨hlimit, hany⟩
    obtain hlow | hnone := hcase
    · omega
    · exact Bool.false_ne_true (hnone.symm.trans hany)

theorem grantBeginsACorrection : Claim.GrantBeginsACorrection := by
  intro s n x rest others
  refine ⟨fun k hk => by simp only [grant, hk], fun hnone => ?_, fun hidle hchoice hpart hothers => ?_⟩
  · cases hk : s.corr.inFlight <;> simp only [grant, hk, hnone]
  · have hservice : serviceAfter s n = match s.settings.arbMode with
        | .rotating => s.corr.service
        | .fixed => if others = false then 0 else if s.corr.last = some n then s.corr.service + 1 else 1 := by
      have hany : (headsAfter n).any (waitsForGrant s) = others := hothers.symm
      unfold serviceAfter
      rw [hany]
      cases s.settings.arbMode <;> cases others <;> rfl
    have hbegin : beginCorrection n x s =
        { sample := x
          record := s.settings.cal[n].record
          version := s.settings.cal[n].version
          lag := s.cal.lag[n]
          bound := match s.occ.active[n] with
            | none => .none
            | some c => .live c.tag
          station := s.occ.active[n].bind fun c => findStation s.table c.station
          page := pageAt s.pages.slots x.time } := by
      unfold beginCorrection
      cases s.occ.active[n] <;> rfl
    have hgrant : grant s = setPartition n rest
        { s with corr := { last := some n, service := serviceAfter s n, inFlight := some (beginCorrection n x s) } } := by
      simp only [grant, hidle, hchoice, grantHead, hpart]
    rw [hgrant, hservice, hbegin]
    rfl

/-- Settles O54: the next head of both modes, and the correction that its oldest sample begins. -/
theorem arbiterGrantsAndBeginsCorrections : Obligations.ArbiterGrantsAndBeginsCorrections :=
  ⟨arbiterChoosesTheNextHead, grantBeginsACorrection⟩

/-! ## The computation of a correction (R30 to R36) -/

theorem correctionFormsTheRecord : Claim.CorrectionFormsTheRecord := by
  rintro k r rfl
  refine ⟨rfl, rfl, rfl, rfl, rfl, ?_, rfl, rfl, rfl, rfl, rfl, rfl, rfl, rfl, rfl, rfl⟩
  change correctionTide k = _
  unfold correctionTide
  cases k.station <;> cases k.page <;> rfl

theorem correctionFormsTemperatureAndLag : Claim.CorrectionFormsTemperatureAndLag := by
  rintro k r rfl
  exact ⟨rfl, rfl⟩

theorem lagStateFollowsTheFourCases : Claim.LagStateFollowsTheFourCases := by
  intro tau l temp time fresh
  refine ⟨rfl, rfl, fun hback => ?_, fun hon dt lagged rate hdt hrate hlagged => ?_⟩
  · simp only [lagStep, Bool.false_eq_true, if_false, Nat.not_lt.mpr hback]
  · subst hdt hrate hlagged
    simp only [lagStep, Bool.false_eq_true, if_false, hon, if_true, Int.abs_eq_natAbs, Nat.mul_comm 1000 tau]

/-- Settles O55: what a correction forms is computed from its copied inputs alone. -/
theorem correctionsAreComputedFromTheirCopies : Obligations.CorrectionsAreComputedFromTheirCopies :=
  ⟨correctionFormsTheRecord, correctionFormsTemperatureAndLag, lagStateFollowsTheFourCases⟩

/-! ## The gates (R84, R85) -/

/-- The tilt gate compares squares. -/
theorem tilt_gate_iff {limit x y : Int} (h : 0 ≤ limit) :
    limit * limit < x * x + y * y ↔ (limit : ℝ) < Real.sqrt ((x : ℝ) ^ 2 + (y : ℝ) ^ 2) := by
  rw [Real.lt_sqrt (by exact_mod_cast h)]
  have hcast : ((limit : ℝ) ^ 2 < (x : ℝ) ^ 2 + (y : ℝ) ^ 2) ↔ limit ^ 2 < x ^ 2 + y ^ 2 := by exact_mod_cast Iff.rfl
  rw [hcast, pow_two, pow_two, pow_two]

/-- The deviation gate compares whole multiples of the mean's denominator. -/
theorem deviation_gate_iff {gate g sum : Int} {n : Nat} (hn : 0 < n) :
    gate * n < (g * n - sum).natAbs ↔ (gate : ℚ) < |(g : ℚ) - (sum : ℚ) / n| := by
  have hpos : (0 : ℚ) < n := by exact_mod_cast hn
  have hdiff : (g : ℚ) - (sum : ℚ) / n = ((g * n - sum : Int) : ℚ) / n := by
    push_cast
    field_simp
  rw [hdiff, abs_div, abs_of_pos hpos, lt_div_iff₀ hpos, ← Int.cast_abs, Int.abs_eq_natAbs]
  exact_mod_cast Iff.rfl

/-- Settles O28: the gates in order, the tilt gate by squares and the deviation gate by the mean's numerator. -/
theorem gatesAreTestedInOrder : Obligations.GatesAreTestedInOrder := by
  intro p a r rate g c1 c2 c3 c4 c5 c6 hg h1 h2 h3 h4 h5 h6 hlimit
  have hcorrected : r.corrected.getD 0 = g := by
    obtain hg | ⟨hg, rfl⟩ := hg <;> rw [hg] <;> rfl
  have htilt : c3 = decide (p.tiltLimit * p.tiltLimit < r.tiltX * r.tiltX + r.tiltY * r.tiltY) := by
    rw [h3 hlimit]
    exact decide_eq_decide.mpr (tilt_gate_iff hlimit).symm
  have hdeviation : c6 = decide (p.gate ≠ 0 ∧ 10 ≤ a.accepted ∧ p.gate * a.accepted < (g * a.accepted - a.gravity).natAbs) := by
    rw [h6]
    refine decide_eq_decide.mpr (and_congr_right fun _ => and_congr_right fun hten => ?_)
    exact (deviation_gate_iff (by omega)).symm
  unfold failedGate
  rw [hcorrected, h1, h2, htilt, h4, h5, hdeviation]
  simp only [decide_eq_true_eq]

end Sys2Proof.Machine
end

section
/-! PROOFS. The values of a reading, and the completions that send one (R89, R96 to R101): O56. -/

namespace Sys2Proof.Machine

-- One theorem at a time: side by side, the proofs ask for more threads than the check's memory limit has stacks for.
set_option Elab.async false

/-! ## Rounding a quotient and a root (R101) -/

/-- The model's rounding of a quotient is the nearest integer, a value halfway away from zero. -/
theorem rounded_roundDiv (a : Int) {b : Nat} (hb : 0 < b) : Rounded ((a : ℝ) / b) (roundDiv a b) := by
  obtain ⟨hnear, haway⟩ := roundDiv_spec a b hb
  have hpos : (0 : ℝ) < b := by exact_mod_cast hb
  have hdiff : |(a : ℝ) / b - roundDiv a b| = ((a - roundDiv a b * b).natAbs : ℝ) / b := by
    have hsub : (a : ℝ) / b - roundDiv a b = ((a - roundDiv a b * b : Int) : ℝ) / b := by
      push_cast
      field_simp
    rw [hsub, abs_div, abs_of_pos hpos, ← Int.cast_abs, Int.abs_eq_natAbs, Int.cast_natCast]
  unfold Rounded
  rw [hdiff]
  refine ⟨?_, fun hhalf => ?_⟩
  · rw [div_le_div_iff₀ hpos two_pos]
    exact_mod_cast (by omega : (a - roundDiv a b * b).natAbs * 2 ≤ 1 * b)
  · rw [div_eq_div_iff hpos.ne' two_ne_zero] at hhalf
    have hexact : 2 * (a - roundDiv a b * b).natAbs = b := by
      have : (a - roundDiv a b * b).natAbs * 2 = 1 * b := by exact_mod_cast hhalf
      omega
    have hle := haway hexact
    rw [abs_div, abs_of_pos hpos, div_le_iff₀ hpos, ← Int.cast_abs, ← Int.cast_abs, Int.abs_eq_natAbs, Int.abs_eq_natAbs]
    exact_mod_cast hle

/-- Twice the root lies between the integer root of four times the quotient and the next integer. -/
theorem isqrt_bounds (a : Nat) {b : Nat} (hb : 0 < b) : (isqrt (4 * a / b) : ℝ) ≤ 2 * Real.sqrt ((a : ℝ) / b) ∧
    2 * Real.sqrt ((a : ℝ) / b) < isqrt (4 * a / b) + 1 := by
  obtain ⟨hlow, hhigh⟩ := isqrt_spec (4 * a / b)
  have hpos : (0 : ℝ) < b := by exact_mod_cast hb
  have htwo : 2 * Real.sqrt ((a : ℝ) / b) = Real.sqrt ((4 * a : ℝ) / b) := by
    rw [show (4 * a : ℝ) / b = 2 ^ 2 * ((a : ℝ) / b) by ring, Real.sqrt_mul (by norm_num), Real.sqrt_sq (by norm_num)]
  have hlow' : isqrt (4 * a / b) * isqrt (4 * a / b) * b ≤ 4 * a := (Nat.le_div_iff_mul_le hb).mp hlow
  have hhigh' : 4 * a < (isqrt (4 * a / b) + 1) * (isqrt (4 * a / b) + 1) * b := (Nat.div_lt_iff_lt_mul hb).mp hhigh
  rw [htwo]
  constructor
  · refine Real.le_sqrt_of_sq_le ?_
    rw [le_div_iff₀ hpos, pow_two]
    exact_mod_cast hlow'
  · rw [Real.sqrt_lt' (by positivity), div_lt_iff₀ hpos, pow_two]
    exact_mod_cast hhigh'

theorem rounded_roundSqrt (a : Nat) {b : Nat} (hb : 0 < b) : Rounded (Real.sqrt ((a : ℝ) / b)) (roundSqrt a b) := by
  obtain ⟨hlow, hhigh⟩ := isqrt_bounds a hb
  have hroot := Real.sqrt_nonneg ((a : ℝ) / b)
  have hz1 : 2 * roundSqrt a b ≤ isqrt (4 * a / b) + 1 := by unfold roundSqrt; omega
  have hz2 : isqrt (4 * a / b) ≤ 2 * roundSqrt a b := by unfold roundSqrt; omega
  have hz1 : 2 * (roundSqrt a b : ℝ) ≤ isqrt (4 * a / b) + 1 := by exact_mod_cast hz1
  have hz2 : (isqrt (4 * a / b) : ℝ) ≤ 2 * roundSqrt a b := by exact_mod_cast hz2
  unfold Rounded
  rw [Int.cast_natCast]
  refine ⟨abs_le.mpr ⟨by linarith, by linarith⟩, fun hhalf => ?_⟩
  rw [abs_of_nonneg hroot, abs_of_nonneg (Nat.cast_nonneg _)]
  by_contra hgt
  rw [abs_of_pos (by linarith)] at hhalf
  linarith

/-! ## The values of a reading (R101) -/

theorem meanOf_zero (sum : Int) : meanOf sum 0 = none := rfl

theorem meanOf_pos {n : Nat} (hn : 0 < n) (sum : Int) : meanOf sum n = some (roundDiv sum n) := if_neg (by omega)

theorem standardError_few {a : Accumulators} (h : a.accepted < 2) : standardError a = none := if_pos h

/-- The standard error is the rounded root that R101 gives. -/
theorem standardError_rounded {a : Accumulators} {n : Nat} (hn : n = a.accepted) (h : 2 ≤ n) : ∃ x, standardError a = some x ∧
    Rounded (Real.sqrt (((a.squares : ℝ) - (a.gravity : ℝ) ^ 2 / n) / ((n : ℝ) * ((n : ℝ) - 1)))) x := by
  subst hn
  refine ⟨_, if_neg (Nat.not_lt.mpr h), ?_⟩
  have hpos : (0 : ℝ) < a.accepted := by exact_mod_cast (by omega : 0 < a.accepted)
  have hless : (1 : ℝ) < a.accepted := by exact_mod_cast h
  have hquot : ((a.squares : ℝ) - (a.gravity : ℝ) ^ 2 / a.accepted) / ((a.accepted : ℝ) * ((a.accepted : ℝ) - 1)) =
      ((a.accepted * a.squares - a.gravity * a.gravity : Int) : ℝ) / (a.accepted * a.accepted * (a.accepted - 1) : Nat) := by
    have hsub : (a.accepted : ℝ) - 1 ≠ 0 := by linarith
    push_cast [Nat.cast_sub (by omega : 1 ≤ a.accepted)]
    field_simp
  have hroot : Real.sqrt (((a.accepted * a.squares - a.gravity * a.gravity : Int) : ℝ) /
      (a.accepted * a.accepted * (a.accepted - 1) : Nat)) =
      Real.sqrt (((a.accepted * a.squares - a.gravity * a.gravity : Int).toNat : ℝ) /
        (a.accepted * a.accepted * (a.accepted - 1) : Nat)) := by
    generalize (a.accepted * a.squares - a.gravity * a.gravity : Int) = num
    obtain hneg | hge := lt_or_ge num 0
    · rw [Int.toNat_of_nonpos hneg.le, Nat.cast_zero, zero_div, Real.sqrt_zero]
      exact Real.sqrt_eq_zero_of_nonpos (div_nonpos_of_nonpos_of_nonneg (by exact_mod_cast hneg.le) (Nat.cast_nonneg _))
    · have hcast : ((num.toNat : Int) : ℝ) = num := by rw [Int.toNat_of_nonneg hge]
      rw [← hcast, Int.cast_natCast]
  rw [hquot, hroot]
  exact rounded_roundSqrt _ (Nat.mul_pos (Nat.mul_pos (by omega) (by omega)) (by omega))

theorem readingValuesComeFromTheAccumulators : Claim.ReadingValuesComeFromTheAccumulators := by
  rintro c w r a n m rfl rfl rfl rfl
  refine ⟨fun hn => ?_, fun hm => ?_, standardError_few, fun hn => ?_, fun hm => ?_, standardError_rounded rfl,
    rfl, rfl, rfl, rfl, rfl, rfl, rfl, rfl, rfl, rfl⟩
  · simp only [makeReading, hn, meanOf_zero, and_self]
  · simp only [makeReading, meanTideOf, hm, meanOf_zero]
  · exact ⟨_, _, _, meanOf_pos hn _, meanOf_pos hn _, meanOf_pos hn _, rounded_roundDiv _ hn, rounded_roundDiv _ hn, rounded_roundDiv _ hn⟩
  · exact ⟨_, meanOf_pos hm _, rounded_roundDiv _ hm⟩

/-! ## LIMIT_EXPIRY and READING_JOIN (R89, R98) -/

theorem limitExpiryCompletesTheContext : Claim.LimitExpiryCompletesTheContext := by
  intro n s c d b e hc hst hdue hw hq hroom hr hd
  have hdue : due (now s) (limitTimer s n) = true := by
    rw [limitTimer_eq_some.mpr ⟨c, b, hc, hst⟩, due_some]
    exact decide_eq_true hdue
  have hends : limitEnds n s = complete n c .timeLimit s := by simp only [limitEnds, hc]
  simp only [exec, execLimitExpiry, hdue, if_true]
  rw [hends, complete_joins .timeLimit hw hroom hr, latchNext_quiet (by exact quiet_congr rfl rfl hq), hd]
  rfl

theorem readingJoinFreesTheFirstWaiting : Claim.ReadingJoinFreesTheFirstWaiting := by
  intro s n rest c w hw hc hst hq hroom hr
  have hjoin : joinReading s = told (.reading (makeReading c w))
      { s with
        occ := { s.occ with
          active := s.occ.active.set n none
          waiting := rest.filter fun m => m != n }
        groups := (leaveList c s).groups
        table := updateStation c.station dropReference s.table
        corr := (unbindTag c.tag s).corr } := by
    rw [joinReading_joins hw hc hst hroom hr, freeActive_eq, leaveList_groups_congr (s := s) (by rfl), unbindTag_corr_congr (s := s) (by rfl)]
    have hfilter : (told (.reading (makeReading c w)) s).occ.waiting.filter (fun m => m != n) = rest.filter fun m => m != n := by
      change s.occ.waiting.filter _ = _
      rw [hw, List.filter_cons_of_neg (by simp)]
    rw [hfilter]
    rfl
  simp only [exec, execReadingJoin]
  rw [hjoin, latchNext_quiet (by exact quiet_congr rfl rfl hq)]

/-- Settles O56: the timer completes a context, an entry takes the reading, and the reading's values are those of R101. -/
theorem completionsSendReadingsAndFree : Obligations.CompletionsSendReadingsAndFree :=
  ⟨limitExpiryCompletesTheContext, readingJoinFreesTheFirstWaiting, readingValuesComeFromTheAccumulators⟩

end Sys2Proof.Machine
end

section
/-! PROOFS. The head ports: frames, fault causes and silence (R1 to R10, R16, R17): O53. -/

namespace Sys2Proof.Machine

-- One theorem at a time: side by side, the proofs ask for more threads than the check's memory limit has stacks for.
set_option Elab.async false

/-! ## A port that is set (chapter 1) -/

theorem setPort_setPort (n : Head) (p q : HeadPort) (s : State) : setPort n p (setPort n q s) = setPort n p s := by
  have hset : (s.ports.set n q).set n p = s.ports.set n p := Vector.set_set ..
  unfold setPort
  dsimp only
  rw [hset]

theorem setPort_self (n : Head) (s : State) : setPort n s.ports[n] s = s := by
  simp only [setPort, Vector.set_getElem_self, Fin.getElem_fin]

theorem setPort_own (n : Head) (p : HeadPort) (s : State) : (setPort n p s).ports[n] = p := vget_set_self ..

theorem setReceiver_own (n : Head) (r : Receiver) (s : State) : (setReceiver n r s).ports[n] = { s.ports[n] with rx := r } :=
  setPort_own ..

theorem setReceiver_setReceiver (n : Head) (r q : Receiver) (s : State) :
    setReceiver n r (setReceiver n q s) = setReceiver n r s := by
  have hown := setReceiver_own n q s
  unfold setReceiver at hown ⊢
  dsimp only
  rw [hown, setPort_setPort]

theorem setReceiver_same {n : Head} {r : Receiver} {s : State} (h : s.ports[n].rx = r) : setReceiver n r s = s := by
  subst h
  exact setPort_self n s

theorem setReceiver_setPort (n : Head) (r : Receiver) (p : HeadPort) (s : State) :
    setReceiver n r (setPort n p s) = setPort n { p with rx := r } s := by
  unfold setReceiver
  dsimp only
  rw [setPort_own, setPort_setPort]

/-! ## What looks at no port -/

theorem enterHeld_eq (n : Head) (c : Context) (r : HoldReason) (s : State) : enterHeld n c r s =
    { s with
      occ := { s.occ with active := s.occ.active.set n (some { c with state := .held r, acc := leaveState s.clock.time c }) }
      groups := (leaveList c s).groups } := by
  have hgroups := leaveList_setActive c n (some { c with state := .held r, acc := leaveState s.clock.time c }) s
  obtain ⟨g, hframe⟩ := leaveList_frame c (setActive n (some { c with state := .held r, acc := leaveState s.clock.time c }) s)
  rw [hframe] at hgroups
  obtain rfl : g = (leaveList c s).groups := hgroups
  exact hframe

section
variable (m : Head) (q : HeadPort) (s : State)

theorem raise_setPort (i : Source) : raise i (setPort m q s) = setPort m q (raise i s) :=
  (apply_ite (setPort m q) (s.sys.part = .ready ∧ s.settings.sources[i].mode ≠ .off)
    { s with events := { s.events with pending := withMember s.events.pending i.val } } s).symm

theorem join_setPort (x : Message) : join x (setPort m q s) = setPort m q (join x s) := by
  by_cases hlen : s.out.queue.length < Config.queueSize
  · by_cases hstart : startsCongestion s = true
    · unfold join
      rw [if_pos hlen, if_pos (show (setPort m q s).out.queue.length < _ from hlen)]
      dsimp only
      rw [if_pos hstart, if_pos (show startsCongestion (setPort m q s) = true from hstart)]
      exact raise_setPort m q { s with out := pushMessage s.settings.high s.pins.linkReady x s.out } 7
    · unfold join
      rw [if_pos hlen, if_pos (show (setPort m q s).out.queue.length < _ from hlen)]
      dsimp only
      rw [if_neg hstart, if_neg (show ¬ startsCongestion (setPort m q s) = true from hstart)]
      rfl
  · unfold join
    rw [if_neg hlen, if_neg (show ¬ (setPort m q s).out.queue.length < _ from hlen)]

theorem offerNotice_setPort (x : Notice) : offerNotice x (setPort m q s) = setPort m q (offerNotice x s) := by
  by_cases h : hasEntry s = true
  · unfold offerNotice
    rw [if_pos h, if_pos (show hasEntry (setPort m q s) = true from h)]
    exact join_setPort m q s _
  · unfold offerNotice
    rw [if_neg h, if_neg (show ¬ hasEntry (setPort m q s) = true from h)]
    rfl

theorem enterHeld_setPort (n : Head) (c : Context) (r : HoldReason) :
    enterHeld n c r (setPort m q s) = setPort m q (enterHeld n c r s) := by
  rw [enterHeld_eq, enterHeld_eq, leaveList_groups_congr (s := s) (t := setPort m q s) rfl]
  rfl

theorem faultHalt_setPort (n : Head) (f : FaultCause) : faultHalt n f (setPort m q s) = setPort m q (faultHalt n f s) := by
  unfold faultHalt
  change (match s.occ.active[n] with | none => _ | some _ => _) = _
  cases s.occ.active[n] with
  | none => rfl
  | some c =>
    dsimp only
    split
    · rw [enterHeld_setPort, offerNotice_setPort]
    · rfl

end

/-! ## Fault causes (R16, R17) -/

/-- What follows a new fault cause: its notice, and the halt of the head's context. -/
def alarm (n : Head) (f : FaultCause) (st : BitVec 5) (s : State) : State :=
  let t := if inSet s.settings.heads[n].notify (causeIndex f) then offerNotice (.fault n f st) s else s
  if inSet s.settings.heads[n].halt (causeIndex f) then faultHalt n f t else t

theorem alarm_setPort (n : Head) (f : FaultCause) (st : BitVec 5) (m : Head) (q : HeadPort) (s : State) :
    alarm n f st (setPort m q s) = setPort m q (alarm n f st s) := by
  unfold alarm
  rw [setPort_settings]
  dsimp only
  split <;> split
  · rw [offerNotice_setPort, faultHalt_setPort]
  · rw [faultHalt_setPort]
  · rw [offerNotice_setPort]
  · rfl

section
variable {n : Head} {f : FaultCause} {s : State}

theorem setCause_known (h : s.ports[n].status.getLsbD (causeIndex f) = true) : setCause n f s = s := if_pos h

theorem setCause_alarms (h : s.ports[n].status.getLsbD (causeIndex f) = false) : setCause n f s =
    alarm n f (withMember s.ports[n].status (causeIndex f))
      (setPort n { s.ports[n] with status := withMember s.ports[n].status (causeIndex f) } s) := if_neg (Bool.eq_false_iff.mp h)

theorem setCause_new (h : s.ports[n].status.getLsbD (causeIndex f) = false) : setCause n f s =
    setPort n { s.ports[n] with status := withMember s.ports[n].status (causeIndex f) }
      (alarm n f (withMember s.ports[n].status (causeIndex f)) s) := by
  rw [setCause_alarms h, alarm_setPort]

/-- A receiver that is set beside a fault cause. -/
theorem setCause_setReceiver (n : Head) (f : FaultCause) (r : Receiver) (s : State) :
    setCause n f (setReceiver n r s) = setReceiver n r (setCause n f s) := by
  have hown := setReceiver_own n r s
  cases h : s.ports[n].status.getLsbD (causeIndex f) with
  | true => rw [setCause_known h, setCause_known (by rw [hown]; exact h)]
  | false =>
    rw [setCause_new h, setCause_new (by rw [hown]; exact h), hown, setReceiver_setPort]
    change setPort n _ (alarm n f _ (setPort n { s.ports[n] with rx := r } s)) = _
    rw [alarm_setPort, setPort_setPort]

theorem setCause_rx (n : Head) (f : FaultCause) (s : State) : (setCause n f s).ports[n].rx = s.ports[n].rx := by
  have hsame : setReceiver n s.ports[n].rx (setCause n f s) = setCause n f s := by
    rw [← setCause_setReceiver, setReceiver_same rfl]
  rw [← hsame, setReceiver_own]

end

theorem faultHalt_spared {u : State} {n : Head} {f : FaultCause}
    (h : u.occ.active[n] = none ∨ ∃ c, u.occ.active[n] = some c ∧ gathering c = false) : faultHalt n f u = u := by
  unfold faultHalt
  obtain hnone | ⟨c, hc, hg⟩ := h
  · rw [hnone]
  · rw [hc]
    exact if_neg (by simp [hg])

theorem faultHalt_holds {u : State} {n : Head} {f : FaultCause} {c : Context} (hc : u.occ.active[n] = some c)
    (hg : gathering c = true) (hroom : RoomFor 1 u) (hr : u.sys.restartPending = false) : faultHalt n f u =
      noted (.contextHold c.tag c.head (stateName c.state) (.cause f))
        { u with
          occ := { u.occ with
            active := u.occ.active.set n (some
              { c with
                state := .held .fault
                acc := leaveState u.clock.time c
                flags := { c.flags with faultHeld := true } }) }
          groups := (leaveList c u).groups } := by
  unfold faultHalt
  rw [hc]
  dsimp only
  rw [if_pos hg, enterHeld_eq, offerNotice_room (by exact hroom.congr rfl rfl rfl) (by exact hr),
    leaveList_congr (c := c) (d := { c with flags := { c.flags with faultHeld := true } }) rfl rfl]
  rfl

theorem faultCauseNotifiesAndHalts : Claim.FaultCauseNotifiesAndHalts := by
  intro n f s t u st hroom hr hst ht hu
  refine ⟨setCause_known, fun hnew => ?_⟩
  have hroomt : RoomFor 2 t := by
    rw [ht]
    exact hroom.congr rfl rfl rfl
  have hnotified : (if inSet t.settings.heads[n].notify (causeIndex f) then offerNotice (.fault n f st) t else t) = u := by
    rw [hu, offerNotice_room (hroomt.mono (by decide)) (by rw [ht]; exact hr), ht]
    rfl
  have hcause : setCause n f s = if s.settings.heads[n].halt.getLsbD (causeIndex f) then faultHalt n f u else u := by
    have halarm : setCause n f s = alarm n f st t := by
      rw [setCause_alarms hnew, ht, hst]
      rfl
    rw [halarm, alarm, hnotified, ht]
    rfl
  obtain ⟨hocc, hgroups, hclock, hsys⟩ : u.occ = s.occ ∧ u.groups = s.groups ∧ u.clock = s.clock ∧ u.sys = s.sys := by
    rw [hu, ht]
    split <;> exact ⟨rfl, rfl, rfl, rfl⟩
  have hroomu : RoomFor 1 u := by
    rw [hu]
    split
    · exact room_told hroomt _
    · exact hroomt.mono (by decide)
  refine ⟨fun hspared => ?_, fun hhalt c hc hg => ?_⟩
  · rw [hcause]
    split
    · rename_i hhalt
      refine faultHalt_spared ?_
      rw [hocc]
      exact hspared.resolve_left fun h => Bool.false_ne_true (h.symm.trans hhalt)
    · rfl
  · rw [hcause, if_pos hhalt, faultHalt_holds (by rw [hocc]; exact hc) hg hroomu (by rw [hsys]; exact hr), hocc, hclock,
      leaveList_groups_congr hgroups]

theorem silenceExpiryMakesTheHeadSilent : Claim.SilenceExpiryMakesTheHeadSilent := by
  intro n s e hlive hdue
  have h : silenceDue (now s) s.ports[n] = true := by
    simp only [silenceDue, hlive]
    exact decide_eq_true hdue
  simp only [exec, execSilenceExpiry, silenceExpires, h, if_true]
  rfl

/-! ## The push (R10) and an accepted frame (R2, R5 to R9) -/

section
variable {n : Head} {x : Sample} {s : State}

theorem pushSample_room (h : s.partitions[n].length < Config.share s.settings.plan n) : pushSample n x s =
    { s with
      partitions := s.partitions.set n (s.partitions[n] ++ [x])
      ports := s.ports.set n
        { s.ports[n] with
          expected := some (x.counter + 1)
          firstMark := false
          restartMark := false
          gaps := if x.gap.isSome then min (s.ports[n].gaps + 1) 65535 else s.ports[n].gaps } } := if_pos h

theorem pushSample_full (h : Config.share s.settings.plan n ≤ s.partitions[n].length) : pushSample n x s = setCause n .overrun
    { s with ports := s.ports.set n { s.ports[n] with overruns := min (s.ports[n].overruns + 1) 65535 } } :=
  if_neg (Nat.not_lt.mpr h)

theorem pushSample_rx (n : Head) (x : Sample) (s : State) : (pushSample n x s).ports[n].rx = s.ports[n].rx := by
  obtain h | h := Nat.lt_or_ge s.partitions[n].length (Config.share s.settings.plan n)
  · rw [pushSample_room h]
    change ((s.ports.set n _)[n]).rx = _
    rw [vget_set_self]
  · rw [pushSample_full h, setCause_rx]
    change ((s.ports.set n _)[n]).rx = _
    rw [vget_set_self]

end

theorem framePort_eq (n : Head) (f : HeadFrame) (s : State) : framePort n f s =
    { portAfterFrame s.clock.time s.settings.heads[n].silence f s.ports[n] with
      anchor := some (anchorAfter s.clock.time s.settings.heads[n].latency f s.ports[n].anchor) } := rfl

theorem frameSample_eq (n : Head) (f : HeadFrame) (s : State) : frameSample n f s = decodedSample n f (framePort n f s)
    (anchorAfter s.clock.time s.settings.heads[n].latency f s.ports[n].anchor) (s.clock.state == .unset) := rfl

theorem acceptFrame_rx (n : Head) (f : HeadFrame) (s : State) : (acceptFrame n f s).ports[n].rx = s.ports[n].rx := by
  rw [acceptFrame_eq, grant_ports, pushSample_rx]
  split
  · rw [setCause_rx, setPort_own]
    rfl
  · rw [setPort_own]
    rfl

theorem anchorAfter_eq {t latency : Nat} {f : HeadFrame} {o : Option Anchor} {a : Anchor}
    (h : a = if f.backlog = false ∨ f.restarted = true ∨ o = none then { tick := f.tick, time := (t : Int) - latency } else o.getD a) :
    anchorAfter t latency f o = a := by
  cases o with
  | none => exact (h.trans (if_pos (by simp))).symm
  | some old =>
    rw [h]
    unfold anchorAfter
    cases f.backlog <;> cases f.restarted <;> rfl

theorem entersLive_eq (x : HeadState) : entersLive x = (x == .awaiting || x == .silent) := by cases x <;> rfl

theorem missedFrames_eq (o : Option Byte) (c : Byte) : missedFrames o c = o.bind fun e => if e = c then none else some (c - e).toNat := by
  cases o with
  | none => rfl
  | some e => simp only [missedFrames, Option.bind_some, eq_comm]

/-! ## Finding frames (R1) -/

section
variable {n : Head} {s : State}

theorem headBytes_off {bytes : List Byte} (h : s.ports[n].state = .off) : headBytes n bytes s = s := if_pos h

theorem headBytes_hunt {held bytes : List Byte} (hst : s.ports[n].state ≠ .off)
    (hrx : s.ports[n].rx = { buf := held, rescan := 0, junk := false }) : headBytes n bytes s =
      huntFrames n ((held ++ bytes).length + 1) (setReceiver n { buf := held ++ bytes, rescan := 0, junk := false } s) := by
  unfold headBytes
  dsimp only
  rw [if_neg hst, hrx]

theorem huntFrames_empty (h : s.ports[n].rx.buf = []) (k : Nat) : huntFrames n k s = s := by
  cases k with
  | zero => rfl
  | succ k =>
    unfold huntFrames
    dsimp only
    rw [h]

theorem huntFrames_short {buf : List Byte} (hrx : s.ports[n].rx = { buf := buf, rescan := 0, junk := false })
    (hb : buf.head? = some 0x5A#8) (hlen : buf.length < 21) (k : Nat) : huntFrames n (k + 1) s = s := by
  obtain ⟨rest, rfl⟩ := List.head?_eq_some_iff.mp hb
  unfold huntFrames
  simp only [hrx, ne_eq, not_true_eq_false, if_false, Bool.false_eq_true]
  exact if_pos hlen

section
variable {bytes : List Byte}

theorem huntFrames_valid (hrx : s.ports[n].rx = { buf := bytes, rescan := 0, junk := false })
    (hb : bytes.head? = some 0x5A#8) (hlen : bytes.length = 21) (hv : headFrameValid bytes = true) (k : Nat) :
    huntFrames n (k + 1) s =
      huntFrames n k (acceptFrame n (decodeHeadFrame bytes) (setReceiver n { buf := [], rescan := 0, junk := false } s)) := by
  have htake : bytes.take headFrameLength = bytes := List.take_of_length_le (by rw [hlen]; rfl)
  have hdrop : bytes.drop headFrameLength = [] := List.drop_of_length_le (by rw [hlen]; rfl)
  have hnot : ¬ bytes.length < headFrameLength := by rw [hlen]; decide
  obtain ⟨rest, rfl⟩ := List.head?_eq_some_iff.mp hb
  conv_lhs => unfold huntFrames
  simp only [hrx, ne_eq, not_true_eq_false, if_false, Bool.false_eq_true, hnot, htake, hdrop, hv, if_true]
  rfl

theorem huntFrames_invalid (hrx : s.ports[n].rx = { buf := bytes, rescan := 0, junk := false })
    (hb : bytes.head? = some 0x5A#8) (hlen : bytes.length = 21) (hv : headFrameValid bytes = false) (k : Nat) :
    huntFrames n (k + 1) s =
      huntFrames n k (linkError n (setReceiver n { buf := bytes.tail, rescan := 20, junk := false } s)) := by
  have htake : bytes.take headFrameLength = bytes := List.take_of_length_le (by rw [hlen]; rfl)
  have hnot : ¬ bytes.length < headFrameLength := by rw [hlen]; decide
  obtain ⟨rest, rfl⟩ := List.head?_eq_some_iff.mp hb
  conv_lhs => unfold huntFrames
  simp only [hrx, ne_eq, not_true_eq_false, if_false, Bool.false_eq_true, hnot, htake, hv]
  rfl

end

/-- Bytes that are hunted again and hold no sync byte leave nothing behind. -/
theorem huntFrames_discards {l : List Byte} (hl : 0x5A#8 ∉ l) {k : Nat} (hk : l.length ≤ k)
    (hrx : s.ports[n].rx = { buf := l, rescan := l.length, junk := false }) :
    huntFrames n k s = setReceiver n { buf := [], rescan := 0, junk := false } s := by
  induction l generalizing k s with
  | nil =>
    rw [huntFrames_empty (by rw [hrx])]
    exact (setReceiver_same hrx).symm
  | cons b l ih =>
    obtain ⟨k, rfl⟩ : ∃ j, k = j + 1 := ⟨k - 1, by simp at hk; omega⟩
    have hb : b ≠ 0x5A#8 := fun h => hl (h ▸ List.mem_cons_self ..)
    have hone : huntFrames n (k + 1) s = huntFrames n k (setReceiver n { buf := l, rescan := l.length, junk := false } s) := by
      conv_lhs => unfold huntFrames
      simp only [hrx, ne_eq, hb, not_false_eq_true, if_true, List.length_cons]
      rfl
    rw [hone, ih (fun h => hl (List.mem_cons_of_mem _ h)) (by simpa using hk) (by rw [setReceiver_own]), setReceiver_setReceiver]

theorem linkError_setReceiver (r : Receiver) : linkError n (setReceiver n r s) = setReceiver n r (linkError n s) := by
  unfold linkError
  dsimp only
  rw [← setCause_setReceiver, setReceiver_own, setReceiver_setPort]
  change setCause n .linkError (setPort n _ (setPort n _ s)) = _
  rw [setPort_setPort]

end

theorem exec_headFrame (n : Head) (bytes : List Byte) (s : State) :
    exec (.headFrame n bytes) s = .next (latchNext (headBytes n bytes s)) := rfl

section
variable {n : Head} {bytes : List Byte} {s : State}

/-- A valid frame that finds the receiver empty is accepted. -/
theorem headBytes_valid (hst : s.ports[n].state ≠ .off) (hrx : s.ports[n].rx = { buf := [], rescan := 0, junk := false })
    (hb : bytes.head? = some 0x5A#8) (hlen : bytes.length = 21) (hv : headFrameValid bytes = true) :
    headBytes n bytes s = acceptFrame n (decodeHeadFrame bytes) s := by
  rw [headBytes_hunt hst hrx, List.nil_append, huntFrames_valid (by rw [setReceiver_own]) hb hlen hv, setReceiver_setReceiver,
    setReceiver_same hrx]
  exact huntFrames_empty (by rw [acceptFrame_rx, hrx]) _

/-- A frame that fails a test, with no sync byte behind its first, is one link error. -/
theorem headBytes_invalid (hst : s.ports[n].state ≠ .off) (hrx : s.ports[n].rx = { buf := [], rescan := 0, junk := false })
    (hb : bytes.head? = some 0x5A#8) (hlen : bytes.length = 21) (hv : headFrameValid bytes = false) (hsync : 0x5A#8 ∉ bytes.tail) :
    headBytes n bytes s = linkError n s := by
  have htail : bytes.tail.length = 20 := by simp [hlen]
  rw [headBytes_hunt hst hrx, List.nil_append, huntFrames_invalid (by rw [setReceiver_own]) hb hlen hv, setReceiver_setReceiver,
    huntFrames_discards hsync (by omega) (by rw [linkError_setReceiver, setReceiver_own, htail]), linkError_setReceiver,
    setReceiver_setReceiver, ← linkError_setReceiver, setReceiver_same hrx]

end

theorem headFramesArriveInPieces : Claim.HeadFramesArriveInPieces := by
  intro n first s t hst hrx hb hlen hq ht
  have hset : t = setReceiver n { buf := first, rescan := 0, junk := false } s := ht
  have hown : t.ports[n].rx = { buf := first, rescan := 0, junk := false } := by rw [hset, setReceiver_own]
  refine ⟨?_, fun rest => ?_⟩
  · rw [exec_headFrame, headBytes_hunt hst hrx, List.nil_append, ← hset, huntFrames_short hown hb hlen,
      latchNext_quiet (by rw [ht]; exact quiet_congr rfl rfl hq)]
  · have hstt : t.ports[n].state ≠ .off := by rw [hset, setReceiver_own]; exact hst
    rw [exec_headFrame, exec_headFrame, headBytes_hunt hstt hown, headBytes_hunt hst hrx, List.nil_append, hset, setReceiver_setReceiver]

theorem headStatusIsSetBeforeThePush : Claim.HeadStatusIsSetBeforeThePush := by
  intro n s
  refine ⟨fun bytes f p q a x hp hst hrx hlen hv hb hf hflag ha hq hx => ?_, fun x => ⟨pushSample_room, pushSample_full⟩⟩
  subst hp hf
  have hanchor := anchorAfter_eq ha
  have hport : framePort n (decodeHeadFrame bytes) s = q := by
    rw [hq, ← hanchor]
    rw [framePort_eq, portAfterFrame, entersLive_eq, ← Bool.or_assoc]
  have hstatus : ((decodeHeadFrame bytes).sensorFault || (decodeHeadFrame bytes).ovenUnstable) = true := by
    rw [Bool.or_eq_true]
    exact hflag
  have hsample : frameSample n (decodeHeadFrame bytes) s = x := by
    rw [hx]
    rw [frameSample_eq, decodedSample, hport, hanchor, missedFrames_eq, hstatus]
    rfl
  rw [exec_headFrame, headBytes_valid hst hrx hb hlen hv, acceptFrame_eq, hport, hsample, if_pos (by rw [hx])]
  rfl

theorem headFrameIsDecodedAndPushed : Claim.HeadFrameIsDecodedAndPushed := by
  intro n bytes s p hp hq
  subst hp
  refine ⟨fun hoff => ?off, fun hst hrx hlen hb => ⟨fun hv hsync => ?invalid, fun hv => ?valid⟩⟩
  case off => rw [exec_headFrame, headBytes_off hoff, latchNext_quiet hq]
  case invalid =>
    rw [exec_headFrame, headBytes_invalid hst hrx hb hlen hv hsync]
    rfl
  case valid =>
    intro f a fresh first restart expected gap x q hf hfresh ha hfirst hrestart hexpected hgap hx hq' hsensor hoven
    subst hf
    have hanchor : anchorAfter s.clock.time s.settings.heads[n].latency (decodeHeadFrame bytes) s.ports[n].anchor = a := by
      refine anchorAfter_eq (ha.trans (if_congr ?_ rfl rfl))
      rw [hfresh]
      simp [or_assoc]
    have hport : framePort n (decodeHeadFrame bytes) s =
        { q with expected := expected, firstMark := first, restartMark := restart } := by
      rw [hq', hfirst, hrestart, hexpected, ← hanchor]
      rw [framePort_eq, portAfterFrame, entersLive_eq, ← Bool.or_assoc]
    have hsample : frameSample n (decodeHeadFrame bytes) s = x := by
      rw [hx, hgap]
      rw [frameSample_eq, decodedSample, hport, hanchor, missedFrames_eq]
      rfl
    have hexec : exec (.headFrame n bytes) s = .next (latchNext (grant (pushSample n x
        (setPort n { q with expected := expected, firstMark := first, restartMark := restart } s)))) := by
      rw [exec_headFrame, headBytes_valid hst hrx hb hlen hv, acceptFrame_eq, hport, hsample, if_neg]
      rw [hx, hsensor, hoven]
      exact Bool.false_ne_true
    have hset (r : HeadPort) : (setPort n { q with expected := expected, firstMark := first, restartMark := restart } s).ports.set n r =
        s.ports.set n r := Vector.set_set ..
    have hcounter : x.counter = (decodeHeadFrame bytes).counter ∧ x.gap = gap := by
      rw [hx]
      exact ⟨rfl, rfl⟩
    have hcounts : q.gaps = s.ports[n].gaps ∧ q.overruns = s.ports[n].overruns := by
      rw [hq']
      exact ⟨rfl, rfl⟩
    refine ⟨fun hroom => ?_, fun hfull => ?_⟩
    · rw [hexec, pushSample_room (by exact hroom), hset, setPort_own, hcounter.1, hcounter.2]
      dsimp only
      rw [hcounts.1]
      rfl
    · rw [hexec, pushSample_full (by exact hfull), hset, setPort_own]
      dsimp only
      rw [hcounts.2]
      rfl

/-- Settles O53: a head's bytes become frames, a frame becomes a sample in its partition, and fault causes alarm once. -/
theorem headPortsDecodeFramesAndSetFaults : Obligations.HeadPortsDecodeFramesAndSetFaults :=
  ⟨headFrameIsDecodedAndPushed, headStatusIsSetBeforeThePush, headFramesArriveInPieces, faultCauseNotifiesAndHalts,
    silenceExpiryMakesTheHeadSilent⟩

end Sys2Proof.Machine
end

section
/-! PROOFS. The event unit: line changes, latching, and a dispatch that holds and wakes (R121 to R127): O57. -/

namespace Sys2Proof.Machine

-- One theorem at a time: side by side, the proofs ask for more threads than the check's memory limit has stacks for.
set_option Elab.async false

/-! ## A line changes (R121, R122, R131) -/

theorem lineRequest_inert {i : Fin 4} {level : Bool} {s : State} {m : SourceMode} (hm : s.settings.sources[lineSource i].mode = m)
    (h : m = .off ∨ m = .rising ∧ level = false ∨ m = .falling ∧ level = true) : lineRequest i level s = s := by
  unfold lineRequest
  rw [hm]
  obtain rfl | ⟨rfl, rfl⟩ | ⟨rfl, rfl⟩ := h <;> rfl

theorem lineRequest_edge {i : Fin 4} {level : Bool} {s : State} {m : SourceMode} (hm : s.settings.sources[lineSource i].mode = m)
    (h : m = .rising ∧ level = true ∨ m = .falling ∧ level = false) : lineRequest i level s = raise (lineSource i) s := by
  unfold lineRequest
  rw [hm]
  obtain ⟨rfl, rfl⟩ | ⟨rfl, rfl⟩ := h <;> rfl

theorem lineRequest_rests {i : Fin 4} {level : Bool} {s : State} {m : SourceMode} (hm : s.settings.sources[lineSource i].mode = m)
    (h : m = .high ∧ level = false ∨ m = .low ∧ level = true) : lineRequest i level s = setRearm i true s := by
  unfold lineRequest
  rw [hm]
  obtain ⟨rfl, rfl⟩ | ⟨rfl, rfl⟩ := h <;> rfl

theorem lineRequest_active {i : Fin 4} {level : Bool} {s : State} {m : SourceMode} (hm : s.settings.sources[lineSource i].mode = m)
    (h : m = .high ∧ level = true ∨ m = .low ∧ level = false) :
    lineRequest i level s = if inSet s.events.rearm i.val then raise (lineSource i) (setRearm i false s) else s := by
  unfold lineRequest
  rw [hm]
  obtain ⟨rfl, rfl⟩ | ⟨rfl, rfl⟩ := h <;> rfl

theorem lineChange_same {i : Fin 4} {level : Bool} {s : State} (h : s.events.level.getLsbD i.val = level) : lineChange i level s = s :=
  if_pos h

theorem lineChange_ready {i : Fin 4} {level : Bool} {s : State} (h : s.events.level.getLsbD i.val ≠ level)
    (hr : s.sys.part = .ready) : lineChange i level s = lineRequest i level (setLine i level s) := by
  unfold lineChange
  rw [if_neg (by exact h)]
  exact if_pos hr

theorem lineChange_starting {i : Fin 4} {level : Bool} {s : State} (h : s.events.level.getLsbD i.val ≠ level)
    (hp : s.sys.part = .starting) : lineChange i level s = setLine i level s := by
  have hnot : ¬ s.sys.part = .ready := by simp [hp]
  unfold lineChange
  rw [if_neg (by exact h)]
  exact if_neg hnot

theorem exec_lineChange (i : Fin 4) (level : Bool) (s : State) :
    exec (.eventLineChange i level) s = .next (latchNext (lineChange i level s)) := rfl

/-- A part is STARTING or READY. -/
theorem ready_of_not_starting {p : PartState} (h : p ≠ .starting) : p = .ready := by
  cases p with
  | starting => exact absurd rfl h
  | ready => rfl

/-- A change of a line that raises nothing leaves the latch empty. -/
theorem latchNext_line {s t : State} (hq : Quiet s) (hs : t.settings = s.settings) (hp : t.events.pending = s.events.pending)
    (hl : t.events.latch = s.events.latch) : latchNext t = t := by
  obtain ⟨hlatch, hnext⟩ := hq
  refine latchNext_quiet ⟨hl.trans hlatch, ?_⟩
  unfold nextSource
  rw [hs, hp]
  exact hnext

theorem eventLineChangeRaisesRequests : Claim.EventLineChangeRaisesRequests := by
  intro i level s t k m hq hk hm ht
  obtain rfl : k = lineSource i := Fin.ext hk
  have hset : setLine i level s = t := ht.symm
  have hmode : t.settings.sources[lineSource i].mode = m := by rw [hm, ht]
  have hquiet (u : State) (hs : u.settings = s.settings) (hp : u.events.pending = s.events.pending)
      (hl : u.events.latch = s.events.latch) : latchNext u = u := latchNext_line hq hs hp hl
  have hkeep : latchNext t = t := by
    rw [ht]
    exact hquiet _ rfl rfl rfl
  have hrearm : t.events.rearm = s.events.rearm := by rw [ht]
  refine ⟨fun hsame => ?_, fun hne => ⟨fun hinert => ?_, fun hr hedge => ?_, fun hr hrest => ?_, fun hr hact => ⟨fun hb => ?_, fun hb => ?_⟩⟩⟩
  · rw [exec_lineChange, lineChange_same hsame, latchNext_quiet hq]
  · by_cases hp : s.sys.part = .starting
    · rw [exec_lineChange, lineChange_starting hne hp, hset, hkeep]
    · have hstill : m = .off ∨ m = .rising ∧ level = false ∨ m = .falling ∧ level = true :=
        hinert.imp_right fun h => h.resolve_left hp
      rw [exec_lineChange, lineChange_ready hne (ready_of_not_starting hp), hset, lineRequest_inert hmode hstill, hkeep]
  · rw [exec_lineChange, lineChange_ready hne hr, hset, lineRequest_edge hmode hedge]
  · rw [exec_lineChange, lineChange_ready hne hr, hset, lineRequest_rests hmode hrest,
      hquiet (setRearm i true t) (by rw [ht]; rfl) (by rw [ht]; rfl) (by rw [ht]; rfl), ← hrearm]
    rfl
  · rw [exec_lineChange, lineChange_ready hne hr, hset, lineRequest_active hmode hact,
      if_neg (by rw [hrearm]; exact Bool.eq_false_iff.mp hb), hkeep]
  · rw [exec_lineChange, lineChange_ready hne hr, hset, lineRequest_active hmode hact, if_pos (by rw [hrearm]; exact hb), ← hrearm]
    rfl

/-! ## Requests and the latch (R123 to R125) -/

theorem nextSource_none {s : State} (h : ∀ j : Source, askedFor s j = false) : nextSource s = none := by
  rw [nextSource_eq, List.find?_eq_none]
  intro j _
  simp [h j]

/-- The highest-numbered source that is pending and not masked is the next. -/
theorem nextSource_highest {s : State} {i : Source} (hi : askedFor s i = true) (h : ∀ j, i < j → askedFor s j = false) :
    nextSource s = some i := by
  have hpair : sourcesDown.Pairwise (· > ·) := by decide
  have hmem : ∀ i : Source, i ∈ sourcesDown := by decide
  obtain ⟨l₁, l₂, hl⟩ := List.append_of_mem (hmem i)
  have hbefore : ∀ j ∈ l₁, ¬ askedFor s j = true := fun j hj => by
    rw [hl] at hpair
    simp [h j ((List.pairwise_append.mp hpair).2.2 j hj i (List.mem_cons_self ..))]
  rw [nextSource_eq, hl, List.find?_append, List.find?_eq_none.mpr hbefore, List.find?_cons_of_pos hi]
  rfl

theorem askedFor_eq_false {s : State} {j : Source} : askedFor s j = false ↔
    (s.events.pending.getLsbD j.val = true → s.settings.sources[j].masked = true) := by
  unfold askedFor inSet
  cases s.events.pending.getLsbD j.val <;> cases s.settings.sources[j].masked <;> decide

theorem requestsPendAndTheHighestIsLatched : Claim.RequestsPendAndTheHighestIsLatched := by
  intro i s
  refine ⟨raise_ready, raise_refused, fun j => latchNext_latched, fun hl => ⟨fun hnone => ?_, fun hp hm habove => ?_⟩⟩
  · exact latchNext_quiet ⟨hl, nextSource_none fun j => askedFor_eq_false.mpr (hnone j)⟩
  · have hasked : askedFor s i = true := by
      unfold askedFor inSet
      rw [hp, hm]
      rfl
    exact latchNext_some hl (nextSource_highest hasked fun j hj => askedFor_eq_false.mpr (habove j hj))

/-! ## A dispatch at one head (R126, R90, R92) -/

/-- A dispatch of the source acts on nothing at a head. -/
def Spared (i : Source) (o : Option Context) : Prop :=
  o = none ∨ ∃ c, o = some c ∧ (c.state = .held .stale ∨ (∃ w, c.state = .complete w) ∨ c.state = .parked ∨
    (gathering c = true ∧ c.hold.getLsbD i.val = false) ∨ ((∃ w, c.state = .held w) ∧ c.wake.getLsbD i.val = false))

/-- A dispatch of the source holds the context at a head. -/
def Caught (i : Source) (o : Option Context) (c : Context) : Prop := o = some c ∧ gathering c = true ∧ c.hold.getLsbD i.val = true

/-- A dispatch of the source releases the context at a head. -/
def Woken (i : Source) (o : Option Context) (c : Context) : Prop :=
  o = some c ∧ ∃ w, c.state = .held w ∧ w ≠ .stale ∧ c.wake.getLsbD i.val = true

theorem spared_caught_or_woken (i : Source) (o : Option Context) : Spared i o ∨ (∃ c, Caught i o c) ∨ ∃ c, Woken i o c := by
  cases o with
  | none => exact .inl (.inl rfl)
  | some c =>
    by_cases hg : gathering c = true
    · cases hb : c.hold.getLsbD i.val with
      | false => exact .inl (.inr ⟨c, rfl, .inr (.inr (.inr (.inl ⟨hg, hb⟩)))⟩)
      | true => exact .inr (.inl ⟨c, rfl, hg, hb⟩)
    · cases hst : c.state with
      | held w =>
        by_cases hw : w = .stale
        · exact .inl (.inr ⟨c, rfl, .inl (hw ▸ hst)⟩)
        · cases hb : c.wake.getLsbD i.val with
          | false => exact .inl (.inr ⟨c, rfl, .inr (.inr (.inr (.inr ⟨⟨w, hst⟩, hb⟩)))⟩)
          | true => exact .inr (.inr ⟨c, rfl, w, hst, hw, hb⟩)
      | complete w => exact .inl (.inr ⟨c, rfl, .inr (.inl ⟨w, hst⟩)⟩)
      | parked => exact .inl (.inr ⟨c, rfl, .inr (.inr (.inl hst))⟩)
      | settling e => exact absurd (by simp only [gathering, hst]) hg
      | waiting => exact absurd (by simp only [gathering, hst]) hg
      | running a b => exact absurd (by simp only [gathering, hst]) hg

section
variable {i : Source} {x : Dispatched} {n : Head} {c : Context}

theorem dispatchHead_spared (h : Spared i x.state.occ.active[n]) : dispatchHead i x n = x := by
  unfold dispatchHead
  obtain hnone | ⟨c, hc, h⟩ := h
  · rw [hnone]
  · rw [hc]
    obtain hst | ⟨w, hst⟩ | hst | ⟨hg, hb⟩ | ⟨⟨w, hst⟩, hb⟩ := h
    · simp only [hst]
    · simp only [hst]
    · simp only [hst]
    · have hb : inSet c.hold i.val = false := hb
      unfold gathering at hg
      split at hg
      all_goals simp_all
    · have hb : inSet c.wake i.val = false := hb
      cases w <;> simp [hst, hb]

theorem dispatchHead_caught (h : Caught i x.state.occ.active[n] c) :
    dispatchHead i x n = { x with state := holdByEvent n c i x.state, held := x.held + 1 } := by
  obtain ⟨hc, hg, hb⟩ := h
  have hb : inSet c.hold i.val = true := hb
  unfold dispatchHead
  rw [hc]
  unfold gathering at hg
  split at hg
  all_goals simp_all

theorem dispatchHead_woken (h : Woken i x.state.occ.active[n] c) :
    dispatchHead i x n = { x with state := releaseHeld n c x.state, woken := x.woken + 1 } := by
  obtain ⟨hc, w, hst, hw, hb⟩ := h
  have hb : inSet c.wake i.val = true := hb
  unfold dispatchHead
  rw [hc]
  cases w with
  | stale => exact absurd rfl hw
  | command => simp only [hst, hb, if_true]
  | event => simp only [hst, hb, if_true]
  | fault => simp only [hst, hb, if_true]

end

section
variable {n : Head} {c : Context} {s : State}

theorem holdByEvent_eq (n : Head) (c : Context) (i : Source) (s : State) : holdByEvent n c i s =
    offerNotice (.contextHold c.tag c.head (stateName c.state) (.source i))
      { s with
        occ := { s.occ with active := s.occ.active.set n (some { c with state := .held .event, acc := leaveState s.clock.time c }) }
        groups := (leaveList c s).groups } := congrArg _ (enterHeld_eq ..)

theorem releaseHeld_running (h : c.policy.resettle = false) :
    releaseHeld n c s = { s with occ := { s.occ with active := s.occ.active.set n (some (running s.clock.time c)) } } :=
  if_neg (by simp [h])

theorem releaseHeld_settled (h : c.policy.resettle = true) :
    releaseHeld n c s = passSettle n (setActive n (some (settled s.clock.time c)) s) := if_pos h

theorem setActive_own (n : Head) (o : Option Context) (s : State) : (setActive n o s).occ.active[n] = o := vget_set_self ..

theorem passSettle_stays (h : c.policy.settle ≠ 0) :
    passSettle n (setActive n (some (settled s.clock.time c)) s) = setActive n (some (settled s.clock.time c)) s := by
  rw [passSettle_some (setActive_own ..)]
  exact if_neg h

theorem passSettle_alone (h : c.policy.settle = 0) (hg : c.group = none) :
    passSettle n (setActive n (some (settled s.clock.time c)) s) =
      setActive n (some (running s.clock.time (settled s.clock.time c))) (setActive n (some (settled s.clock.time c)) s) := by
  rw [passSettle_some (setActive_own ..), if_pos (by exact h)]
  exact settleEnds_alone (setActive_own ..) rfl hg

theorem passSettle_member (h : c.policy.settle = 0) {g : Group} (hg : c.group = some g) :
    passSettle n (setActive n (some (settled s.clock.time c)) s) =
      arrive n (settled s.clock.time c) g (setActive n (some (settled s.clock.time c)) s) := by
  rw [passSettle_some (setActive_own ..), if_pos (by exact h)]
  exact settleEnds_member (setActive_own ..) rfl hg

end

/-! ## What a dispatch leaves unchanged: the levels of the lines -/

theorem raise_level (i : Source) (s : State) : (raise i s).events.level = s.events.level := by
  unfold raise
  split <;> rfl

theorem join_level (m : Message) (s : State) : (join m s).events.level = s.events.level := by
  unfold join
  split
  · dsimp only
    split
    · exact raise_level 7 { s with out := pushMessage s.settings.high s.pins.linkReady m s.out }
    · rfl
  · rfl

theorem offerNotice_level (x : Notice) (s : State) : (offerNotice x s).events.level = s.events.level := by
  unfold offerNotice
  split
  · exact join_level ..
  · rfl

theorem arrive_level (n : Head) (c : Context) (g : Group) (s : State) : (arrive n c g s).events.level = s.events.level := by
  unfold arrive
  dsimp only
  split
  · unfold jointRelease
    dsimp only
    generalize hstart : List.foldl (startMember _) _ _ = t
    obtain ⟨o, ho⟩ := startMembers_frame _ _ _
    rw [ho] at hstart
    rw [offerNotice_level, ← hstart]
    rfl
  · rfl

theorem releaseHeld_level (n : Head) (c : Context) (s : State) : (releaseHeld n c s).events.level = s.events.level := by
  cases hre : c.policy.resettle with
  | false => rw [releaseHeld_running hre]
  | true =>
    rw [releaseHeld_settled hre]
    by_cases hzero : c.policy.settle = 0
    · cases hg : c.group with
      | none =>
        rw [passSettle_alone hzero hg]
        rfl
      | some g =>
        rw [passSettle_member hzero hg, arrive_level]
        rfl
    · rw [passSettle_stays hzero]
      rfl

theorem dispatchHead_level (i : Source) (x : Dispatched) (n : Head) : (dispatchHead i x n).state.events.level = x.state.events.level := by
  obtain h | ⟨c, h⟩ | ⟨c, h⟩ := spared_caught_or_woken i x.state.occ.active[n]
  · rw [dispatchHead_spared h]
  · rw [dispatchHead_caught h, holdByEvent_eq, offerNotice_level]
  · rw [dispatchHead_woken h, releaseHeld_level]

theorem dispatchHeads_level (i : Source) (l : List Head) (x : Dispatched) :
    (l.foldl (dispatchHead i) x).state.events.level = x.state.events.level := by
  induction l generalizing x with
  | nil => rfl
  | cons n l ih => rw [List.foldl_cons, ih, dispatchHead_level]

/-! ## A dispatch at every head (R126, R127) -/

theorem exec_dispatch {i : Source} {s : State} (hl : s.events.latch = some i) :
    exec .eventDispatch s = .next (latchNext (dispatchSource i s)) := by
  have h : exec .eventDispatch s = .next (latchNext (dispatchLatched (latchNext s))) := rfl
  rw [h, latchNext_latched hl, dispatchLatched, hl]

/-- A dispatch once it has reached the heads below a number. -/
def dispatched (i : Source) (s : State) (k : Nat) : Dispatched :=
  (heads.take k).foldl (dispatchHead i) { state := s, held := 0, woken := 0 }

theorem dispatched_succ (i : Source) (s : State) (n : Head) : dispatched i s (n.val + 1) = dispatchHead i (dispatched i s n.val) n := by
  have htake : ∀ n : Head, heads.take (n.val + 1) = heads.take n.val ++ [n] := by decide
  unfold dispatched
  rw [htake, List.foldl_append]
  rfl

theorem dispatched_time (i : Source) (s : State) (k : Nat) : (dispatched i s k).state.clock.time = s.clock.time := by
  obtain ⟨o, e, oc, j, h⟩ := dispatchHeads_frame i (heads.take k) { state := s, held := 0, woken := 0 }
  rw [dispatched, h]

theorem dispatchSource_eq (i : Source) (s : State) {x : Dispatched}
    (hx : heads.foldl (dispatchHead i) { state := s, held := 0, woken := 0 } = x) {u : State}
    (hu : u = if s.settings.sources[i].notify then
      offerNotice (.event i (if i.val < 4 then some (s.events.level.getLsbD i.val) else none) x.held x.woken) x.state else x.state) :
    dispatchSource i s = { u with events := { u.events with latch := none } } := by
  have hlevel := dispatchHeads_level i heads { state := s, held := 0, woken := 0 }
  obtain ⟨o, e, oc, j, hframe⟩ := dispatchHeads_frame i heads { state := s, held := 0, woken := 0 }
  have hset : x.state.settings = s.settings := by rw [← hx, hframe]
  rw [hx] at hlevel
  unfold dispatchSource
  rw [hx]
  dsimp only
  rw [hset, levelOf, hlevel, hu]
  rfl

theorem eventDispatchReachesHeadsInOrder : Claim.EventDispatchReachesHeadsInOrder := by
  intro i s hl
  refine ⟨fun k => (dispatched i s k).state, fun k => (dispatched i s k).held, fun k => (dispatched i s k).woken, _, rfl, rfl, rfl, ?_, rfl,
    by rw [exec_dispatch hl, dispatchSource_eq i s (x := dispatched i s 4) rfl rfl]⟩
  intro n x y o hx hy ho
  have htime := dispatched_time i s n.val
  dsimp only at hx hy ⊢
  rw [dispatched_succ] at hy ⊢
  generalize dispatched i s n.val = d at *
  obtain rfl : x = d.state := hx
  subst ho
  refine ⟨fun h => ?spared, fun c hc hg hb => ?holds, fun c w hc hst hw hb => ?wakes⟩
  case spared =>
    rw [dispatchHead_spared h] at hy ⊢
    exact ⟨hy, rfl, rfl⟩
  case holds =>
    rw [dispatchHead_caught ⟨hc, hg, hb⟩] at hy ⊢
    rw [holdByEvent_eq, htime] at hy
    exact ⟨hy, rfl, rfl⟩
  case wakes =>
    rw [dispatchHead_woken ⟨hc, w, hst, hw, hb⟩] at hy ⊢
    refine ⟨rfl, rfl, fun hre => ?_, fun hre d' z hd hz => ?_⟩
    · rw [hy, ← htime]
      exact releaseHeld_running hre
    · subst hd hz
      rw [hy, ← htime]
      dsimp only
      rw [releaseHeld_settled hre]
      exact ⟨passSettle_stays, fun hzero => ⟨passSettle_alone hzero, fun g hg => passSettle_member hzero hg⟩⟩

/-! ## A dispatch with one context bound -/

theorem dispatchHeads_none {i : Source} {l : List Head} {x : Dispatched} (h : ∀ n ∈ l, x.state.occ.active[n] = none) :
    l.foldl (dispatchHead i) x = x := by
  induction l generalizing x with
  | nil => rfl
  | cons n l ih =>
    obtain ⟨hn, hl⟩ := List.forall_mem_cons.mp h
    rw [List.foldl_cons, dispatchHead_spared (.inl hn), ih hl]

/-- The state after one head, when the others hold no context. -/
structure AloneAfter (n : Head) (s t : State) : Prop where
  events : t.events = s.events
  settings : t.settings = s.settings
  sys : t.sys = s.sys
  room : RoomFor 1 t
  vacant : ∀ m : Head, m ≠ n → t.occ.active[m] = none

section
variable {i : Source} {n : Head} {s : State}

theorem dispatchHeads_alone (hs : ∀ m : Head, m ≠ n → s.occ.active[m] = none) {x : Dispatched}
    (hx : dispatchHead i { state := s, held := 0, woken := 0 } n = x) (h : AloneAfter n s x.state) :
    heads.foldl (dispatchHead i) { state := s, held := 0, woken := 0 } = x := by
  have hmem : ∀ n : Head, n ∈ heads := by decide
  have hnodup : heads.Nodup := by decide
  obtain ⟨l₁, l₂, hl⟩ := List.append_of_mem (hmem n)
  rw [hl] at hnodup ⊢
  obtain ⟨-, hback, hapart⟩ := List.nodup_append.mp hnodup
  have hfront : ∀ m ∈ l₁, m ≠ n := fun m hm => hapart m hm n (List.mem_cons_self ..)
  have hrest : ∀ m ∈ l₂, m ≠ n := fun m hm heq => (List.nodup_cons.mp hback).1 (heq ▸ hm)
  rw [List.foldl_append, dispatchHeads_none fun m hm => hs m (hfront m hm), List.foldl_cons, hx,
    dispatchHeads_none fun m hm => h.vacant m (hrest m hm)]

/-- A dispatch that acts at one head, and its EVENT notice. -/
theorem exec_dispatch_alone (hl : s.events.latch = some i) (hn : nextSource s = none) (hr : s.sys.restartPending = false)
    (hs : ∀ m : Head, m ≠ n → s.occ.active[m] = none) {x : Dispatched}
    (hx : dispatchHead i { state := s, held := 0, woken := 0 } n = x) (h : AloneAfter n s x.state) : exec .eventDispatch s = .next
      { (if s.settings.sources[i].notify then
          noted (.event i (if i.val < 4 then some (s.events.level.getLsbD i.val) else none) x.held x.woken) x.state else x.state) with
        events := { s.events with latch := none } } := by
  have hnotice := offerNotice_room (n := .event i (if i.val < 4 then some (s.events.level.getLsbD i.val) else none) x.held x.woken) h.room
    (by rw [h.sys]; exact hr)
  have hquiet (t : State) (he : t.events = s.events) (hset : t.settings = s.settings) :
      latchNext { t with events := { t.events with latch := none } } = { t with events := { s.events with latch := none } } := by
    rw [he]
    refine latchNext_quiet ⟨rfl, ?_⟩
    unfold nextSource
    rw [hset]
    exact hn
  rw [exec_dispatch hl, dispatchSource_eq i s (dispatchHeads_alone hs hx h) rfl, hnotice]
  split
  · exact congrArg Host.Outcome.next (hquiet (noted _ x.state) h.events h.settings)
  · exact congrArg Host.Outcome.next (hquiet x.state h.events h.settings)

end

theorem startMember_vacant {f : Context → Context} {s : State} {tag : Nat} {m : Head} (h : s.occ.active[m] = none) :
    (startMember f s tag).occ.active[m] = none := by
  unfold startMember
  split
  · exact h
  · rename_i n hn
    obtain ⟨c, hc, -⟩ := activeHead_some hn
    have hne : n ≠ m := by
      rintro rfl
      exact absurd (h.symm.trans hc) (Option.some_ne_none c).symm
    rw [hc]
    exact (vget_set_ne _ hne _).trans h

theorem startMembers_vacant {f : Context → Context} {l : List Nat} {s : State} {m : Head} (h : s.occ.active[m] = none) :
    (l.foldl (startMember f) s).occ.active[m] = none := by
  induction l generalizing s with
  | nil => exact h
  | cons tag l ih => exact ih (startMember_vacant h)

theorem jointRelease_alone {n : Head} {g : Group} {s : State} (hroom : RoomFor 2 s) (hr : s.sys.restartPending = false)
    (hs : ∀ m : Head, m ≠ n → s.occ.active[m] = none) : AloneAfter n s (jointRelease g s) := by
  unfold jointRelease
  dsimp only
  have hvacant (f : Context → Context) (m : Head) (hm : m ≠ n) := startMembers_vacant (f := f) (l := s.groups[g].arrivals) (hs m hm)
  obtain ⟨o, ho⟩ := startMembers_frame
    (fun c => { c with acc := { c.acc with joint := some (nextRun s.groups[g].run, now s) } }) s.groups[g].arrivals s
  have hactive := hvacant fun c => { c with acc := { c.acc with joint := some (nextRun s.groups[g].run, now s) } }
  rw [ho] at hactive ⊢
  rw [offerNotice_room (by exact (hroom.mono (by decide)).congr rfl rfl rfl) (by exact hr)]
  exact ⟨rfl, rfl, rfl, room_told (s := setGroup g _ { s with occ := o }) (hroom.congr rfl rfl rfl) _, hactive⟩

theorem arrive_alone {n : Head} {c : Context} {g : Group} {s : State} (hroom : RoomFor 2 s) (hr : s.sys.restartPending = false)
    (hs : ∀ m : Head, m ≠ n → s.occ.active[m] = none) : AloneAfter n s (arrive n c g s) := by
  have hset (j : JointGroup) (m : Head) (hm : m ≠ n) :
      (setGroup g j (setActive n (some { c with state := .waiting }) s)).occ.active[m] = none :=
    (vget_set_ne _ (Ne.symm hm) _).trans (hs m hm)
  unfold arrive
  dsimp only
  split
  · obtain ⟨he, hset', hsys, hroom', hvacant⟩ := jointRelease_alone (n := n) (g := g)
      (s := setGroup g _ (setActive n (some { c with state := .waiting }) s)) (hroom.congr rfl rfl rfl) hr (hset _)
    exact ⟨he, hset', hsys, hroom', hvacant⟩
  · exact ⟨rfl, rfl, rfl, (hroom.mono (by decide)).congr rfl rfl rfl, hset _⟩

theorem eventDispatchHoldsAndWakes : Claim.EventDispatchHoldsAndWakes := by
  intro i s n o finish hl hn hroom hr ho hs hfinish
  subst ho
  have hone : RoomFor 1 s := hroom.mono (by decide)
  have hset (c : Context) (m : Head) (hm : m ≠ n) : (s.occ.active.set n (some c))[m] = none :=
    (vget_set_ne _ (Ne.symm hm) _).trans (hs m hm)
  have hexec {x : Dispatched} (hx : dispatchHead i { state := s, held := 0, woken := 0 } n = x) (h : AloneAfter n s x.state) :
      exec .eventDispatch s = .next (finish x.state x.held x.woken) := by
    rw [exec_dispatch_alone hl hn hr hs hx h, hfinish]
  refine ⟨fun h => ?spared, fun c hc hg hb => ?holds, fun c w hc hst hw hb => ?wakes⟩
  case spared =>
    have hspared : Spared i s.occ.active[n] := by
      obtain h | ⟨c, hc, h | h | h | h⟩ := h
      · exact .inl h
      · exact .inr ⟨c, hc, .inl h⟩
      · exact .inr ⟨c, hc, .inr (.inl h)⟩
      · exact .inr ⟨c, hc, .inr (.inr (.inr (.inl h)))⟩
      · exact .inr ⟨c, hc, .inr (.inr (.inr (.inr h)))⟩
    exact hexec (dispatchHead_spared hspared) ⟨rfl, rfl, rfl, hone, hs⟩
  case holds =>
    have hheld := dispatchHead_caught (i := i) (x := { state := s, held := 0, woken := 0 }) ⟨hc, hg, hb⟩
    rw [holdByEvent_eq, offerNotice_room (by exact hone.congr rfl rfl rfl) (by exact hr)] at hheld
    exact hexec hheld ⟨rfl, rfl, rfl, room_told (by exact hroom.congr rfl rfl rfl) _, hset _⟩
  case wakes =>
    have hwoken := dispatchHead_woken (i := i) (x := { state := s, held := 0, woken := 0 }) ⟨hc, w, hst, hw, hb⟩
    dsimp only at hwoken
    refine ⟨fun hre => ?_, fun hre hne => ?_, fun hre hzero u hu => ?_⟩
    · rw [releaseHeld_running hre] at hwoken
      exact hexec hwoken ⟨rfl, rfl, rfl, hone.congr rfl rfl rfl, hset _⟩
    · rw [releaseHeld_settled hre, passSettle_stays hne] at hwoken
      exact hexec hwoken ⟨rfl, rfl, rfl, hone.congr rfl rfl rfl, hset _⟩
    · subst hu
      rw [releaseHeld_settled hre] at hwoken
      refine ⟨fun hg => ?_, fun g hg => ?_⟩
      · rw [passSettle_alone hzero hg] at hwoken
        refine hexec hwoken ⟨rfl, rfl, rfl, hone.congr rfl rfl rfl, fun m hm => ?_⟩
        exact (vget_set_ne _ (Ne.symm hm) _).trans (hset _ m hm)
      · rw [passSettle_member hzero hg] at hwoken
        obtain ⟨he, hset', hsys, hroom', hvacant⟩ := arrive_alone (n := n) (c := settled s.clock.time c) (g := g)
          (s := setActive n (some (settled s.clock.time c)) s) (hroom.congr rfl rfl rfl) hr (hset _)
        exact hexec hwoken ⟨he, hset', hsys, hroom', hvacant⟩

/-- Settles O57: lines raise requests, the highest source is latched, and a dispatch holds and wakes the contexts in head order. -/
theorem eventsAreRequestedLatchedAndDispatched : Obligations.EventsAreRequestedLatchedAndDispatched :=
  ⟨eventLineChangeRaisesRequests, requestsPendAndTheHighestIsLatched, eventDispatchHoldsAndWakes, eventDispatchReachesHeadsInOrder⟩

end Sys2Proof.Machine
end

section
/-! PROOFS. Dumps: the range of a DUMP_START, its blocks and its end (R161 to R164, R166): O58. -/

namespace Sys2Proof.Machine

-- One theorem at a time: side by side, the proofs ask for more threads than the check's memory limit has stacks for.
set_option Elab.async false

theorem handleFrame_dumpStart (h : Header) (b : Body DumpStartParams) (s : State) :
    handleFrame (.dumpStart h b) s = command .dumpStart h b groundDumpStart (actDumpStart h) s := rfl

theorem handleFrame_dumpStop (h : Header) (b : Body Unit) (s : State) :
    handleFrame (.dumpStop h b) s = command .dumpStop h b groundDumpStop (actDumpStop h) s := rfl

/-! ## Sequence numbers (R157) -/

theorem seqAdd_eq (a b : Nat) : seqAdd a b = (a + b) % 4294967296 := rfl

theorem seqSub_eq (a : Nat) {b : Nat} (hb : b < 4294967296) : seqSub a b = (a + 4294967296 - b) % 4294967296 := by
  unfold seqSub seqMod
  omega

section
variable {g : Ring} {first : Nat}

theorem oldestSeq_eq (hl : g.records.length ≤ 8192) :
    oldestSeq g = (g.counter + 4294967296 - g.records.length) % 4294967296 := seqSub_eq _ (by omega)

theorem newestSeq_eq (g : Ring) : newestSeq g = (g.counter + 4294967295) % 4294967296 := by
  rw [newestSeq, seqSub_eq _ (by decide), Nat.add_sub_assoc (by decide)]

theorem inRing_eq (g : Ring) (first : Nat) :
    inRing g first = decide ((first + 4294967296 - oldestSeq g) % 4294967296 < g.records.length) := by
  have hold : oldestSeq g < 4294967296 := Nat.mod_lt _ (by decide)
  rw [inRing, seqSub_eq _ hold]

theorem distanceBack_eq (hf : first < 4294967296) : distanceBack g first = (g.counter + 4294967296 - first) % 4294967296 :=
  seqSub_eq _ hf

/-- The last sequence of a range: the newest in the ring, or the end of the count (R162). -/
theorem lastSeq_eq {toNewest count : Nat} (hf : first < 4294967296)
    (hn : toNewest = (newestSeq g + 4294967296 - first) % 4294967296) :
    lastSeq g first count = (first + min (count - 1) toNewest) % 4294967296 := by
  have hnew : newestSeq g < 4294967296 := Nat.mod_lt _ (by decide)
  unfold lastSeq
  rw [seqSub_eq _ hf, ← hn, seqAdd_eq]
  split <;> omega

theorem newDump_eq {n : Head} {p : DumpStartParams} {oldest fromOldest back toNewest : Nat} (hf : p.first < 4294967296)
    (hlen : g.records.length ≤ 8192) (hc : 1 ≤ p.count) (hc' : p.count ≤ 8192) (ho : oldest = oldestSeq g)
    (hfrom : fromOldest = (p.first + 4294967296 - oldest) % 4294967296)
    (hback : back = (g.counter + 4294967296 - p.first) % 4294967296)
    (hnew : toNewest = (newestSeq g + 4294967296 - p.first) % 4294967296) : newDump n g p =
      { head := n
        first := p.first
        last := (p.first + min (p.count - 1) toNewest) % 4294967296
        length := min p.count (toNewest + 1)
        cursor := if fromOldest < g.records.length then some p.first
          else if (back + 4294967296 - g.records.length) % 4294967296 < min p.count (toNewest + 1) then some oldest else none
        block := p.block
        quiet := p.quiet
        sent := 0
        skipped := if fromOldest < g.records.length then 0
          else min ((back + 4294967296 - g.records.length) % 4294967296) (min p.count (toNewest + 1)) } := by
  have hlength : (((p.first + min (p.count - 1) toNewest) % 4294967296) + 4294967296 - p.first) % 4294967296 + 1 =
      min p.count (toNewest + 1) := by
    omega
  unfold newDump
  dsimp only
  rw [lastSeq_eq hf hnew, inRing_eq, ← ho, ← hfrom, distanceBack_eq hf, ← hback, seqSub_eq _ (show g.records.length < 4294967296 by omega),
    seqSub_eq _ hf, hlength]
  simp only [decide_eq_true_eq]

end

/-! ## The end of a dump (R166) -/

theorem endIfCovered_open {s : State} {d : Dump} (hd : s.archive.dump = some d) (h : d.sent + d.skipped ≠ d.length) :
    endIfCovered s = s := by
  unfold endIfCovered
  rw [hd]
  exact if_neg h

theorem endDump_some {s : State} {d : Dump} (hd : s.archive.dump = some d) (b : Bool) :
    endDump b s = offerNotice (.dumpEnd d.head d.sent d.skipped b) (setDump none s) := by
  unfold endDump
  rw [hd]

theorem endIfCovered_covered {s : State} {d : Dump} (hd : s.archive.dump = some d) (h : d.sent + d.skipped = d.length) :
    endIfCovered s = offerNotice (.dumpEnd d.head d.sent d.skipped true) (setDump none s) := by
  rw [← endDump_some hd]
  unfold endIfCovered
  rw [hd]
  exact if_pos h

theorem setDump_same {s : State} {o : Option Dump} (h : s.archive.dump = o) : setDump o s = s := by
  subst h
  rfl

/-! ## DUMP_START (R161, R162) -/

section
variable {p : DumpStartParams} {n : Head} {s : State}

theorem groundDumpStart_badValue (h : 3 < p.head ∨ p.count < 1 ∨ 8192 < p.count ∨ p.block < 1 ∨ 8 < p.block) :
    groundDumpStart p s = some .badValue := by
  by_cases hhead : 3 < p.head
  · simp only [groundDumpStart, headOf_eq_none hhead]
  · have hout : ¬ (1 ≤ p.count ∧ p.count ≤ 8192) ∨ ¬ (1 ≤ p.block ∧ p.block ≤ 8) := by omega
    have hrange : (between 1 8192 p.count && between 1 8 p.block && decide (p.first < seqMod)) = false := by
      unfold between
      rw [Bool.and_eq_false_iff, Bool.and_eq_false_iff, ← Bool.decide_and, ← Bool.decide_and, decide_eq_false_iff_not,
        decide_eq_false_iff_not]
      exact .inl hout
    unfold groundDumpStart
    split
    · rfl
    · exact if_pos hrange

/-- The parameters of a DUMP_START are in range. -/
structure DumpStartFits (p : DumpStartParams) (n : Head) : Prop where
  head : p.head = n.val
  count_pos : 1 ≤ p.count
  count_le : p.count ≤ 8192
  block_pos : 1 ≤ p.block
  block_le : p.block ≤ 8
  first_lt : p.first < 4294967296

theorem groundDumpStart_fits (h : DumpStartFits p n) : groundDumpStart p s =
    if s.archive.dump.isSome then some .busy
    else if s.archive.rings[n].records.isEmpty || aheadOfRing s.archive.rings[n] p.first then some .notFound else none := by
  obtain ⟨hhead, hc, hc', hb, hb', hf⟩ := h
  have hrange : (between 1 8192 p.count && between 1 8 p.block && decide (p.first < seqMod)) = true := by
    simp [between, seqMod, hc, hc', hb, hb', hf]
  simp only [groundDumpStart, hhead, headOf_val, hrange, Bool.true_eq_false, if_false]

theorem aheadOfRing_iff {fromOldest back : Nat} {g : Ring} {first : Nat} (hf : first < 4294967296)
    (hfrom : fromOldest = (first + 4294967296 - oldestSeq g) % 4294967296)
    (hback : back = (g.counter + 4294967296 - first) % 4294967296) :
    aheadOfRing g first = true ↔ g.records.length ≤ fromOldest ∧ 2147483648 < back := by
  rw [aheadOfRing, inRing_eq, ← hfrom, distanceBack_eq hf, ← hback]
  simp

theorem actDumpStart_eq (h : Header) (hfits : DumpStartFits p n) (hroom : RoomFor 1 s) : actDumpStart h p s = endIfCovered
    (answered h .dumpStart .accepted (.dumpStarted (newDump n s.archive.rings[n] p))
      (setDump (some (newDump n s.archive.rings[n] p)) s)) := by
  unfold actDumpStart
  rw [hfits.head, headOf_val]
  dsimp only
  rw [reply_answered Nat.one_pos (by exact hroom.congr rfl rfl rfl)]

end

section
variable {h : Header} {p : DumpStartParams} {n : Head} {s : State}

/-- A dump that has records to send stands. -/
theorem dumpStart_stands (ht : Taken .dumpStart h s) (hfits : DumpStartFits p n) (hg : groundDumpStart p s = none) {d : Dump}
    (hd : newDump n s.archive.rings[n] p = d) (hopen : d.sent + d.skipped ≠ d.length) :
    exec (.dumpStart h (.ok p)) s = .next (answered h .dumpStart .accepted (.dumpStarted d)
      { s with archive := { s.archive with dump := some d } }) := by
  obtain ⟨hatt, -, -⟩ := id ht
  obtain ⟨-, -, -, hroom⟩ := id hatt
  refine exec_replies (t := setDump (some d) s) rfl ht (handleFrame_dumpStart ..) hg ?_ (hatt.congr rfl rfl rfl rfl rfl rfl rfl)
  rw [actDumpStart_eq h hfits hroom, hd, endIfCovered_open (d := d) rfl hopen,
    reply_answered Nat.one_pos (by exact hroom.congr rfl rfl rfl)]

/-- A dump whose range lies behind the ring ends at once. -/
theorem dumpStart_ends (ht : Taken .dumpStart h s) (hfits : DumpStartFits p n) (hg : groundDumpStart p s = none)
    (hnone : s.archive.dump = none) (hroom : RoomFor 2 s) {d : Dump} (hd : newDump n s.archive.rings[n] p = d)
    (hcovered : d.sent + d.skipped = d.length) : exec (.dumpStart h (.ok p)) s =
      .next (noted (.dumpEnd d.head d.sent d.skipped true) (answered h .dumpStart .accepted (.dumpStarted d) s)) := by
  refine exec_notes rfl ht (handleFrame_dumpStart ..) hg ?_ rfl rfl rfl rfl (room_told hroom _)
  have hset : setDump none (answered h .dumpStart .accepted (.dumpStarted d) (setDump (some d) s)) =
      answered h .dumpStart .accepted (.dumpStarted d) s := by
    conv_rhs => rw [← setDump_same hnone]
    rfl
  rw [actDumpStart_eq h hfits (hroom.mono (by decide)), hd, endIfCovered_covered (d := d) rfl hcovered, hset]

end

theorem dumpStartPlacesTheRange : Claim.DumpStartPlacesTheRange := by
  intro h p n s g oldest newest ht hg hcounter hlen hf ho hn
  subst hg
  rw [← oldestSeq_eq hlen] at ho
  rw [← newestSeq_eq] at hn
  refine ⟨fun hbad => exec_refuses rfl ht (handleFrame_dumpStart ..) (groundDumpStart_badValue hbad), fun hhead hc hc' hb hb' => ?_⟩
  have hfits : DumpStartFits p n := ⟨hhead, hc, hc', hb, hb', hf⟩
  refine ⟨fun hbusy => ?busy, fun hnone fromOldest back toNewest hfrom hback hto => ⟨fun habsent => ?absent, fun hne d => ?present⟩⟩
  case busy => exact exec_refuses rfl ht (handleFrame_dumpStart ..) ((groundDumpStart_fits hfits).trans (if_pos hbusy))
  all_goals
    rw [ho] at hfrom
    rw [hn] at hto
    have hahead := aheadOfRing_iff hf hfrom hback
    have hdump : ¬ s.archive.dump.isSome = true := by simp [hnone]
  case absent =>
    refine exec_refuses rfl ht (handleFrame_dumpStart ..) ((groundDumpStart_fits hfits).trans ((if_neg hdump).trans (if_pos ?_)))
    rw [Bool.or_eq_true, List.isEmpty_iff, hahead]
    exact habsent
  case present =>
    have hlength : s.archive.rings[n].records.length ≠ 0 := fun h => hne (List.length_eq_zero_iff.mp h)
    have hground (hreach : ¬ (s.archive.rings[n].records.length ≤ fromOldest ∧ 2147483648 < back)) : groundDumpStart p s = none := by
      refine (groundDumpStart_fits hfits).trans ((if_neg hdump).trans (if_neg ?_))
      rw [Bool.or_eq_true, List.isEmpty_iff, hahead]
      exact fun h => h.elim hne hreach
    have hnew := newDump_eq (n := n) hf hlen hc hc' rfl hfrom hback hto
    rw [oldestSeq_eq hlen] at hfrom
    rw [newestSeq_eq] at hto
    generalize s.archive.rings[n].records.length = len at *
    generalize s.archive.rings[n].counter = counter at *
    refine ⟨fun hin hd => ?_, fun hbehind hfar hnear hsome hd => ?_, fun hwhole hroom hd => ?_⟩
    · rw [if_pos hin, if_pos hin, ← hd] at hnew
      refine dumpStart_stands ht hfits (hground fun h => absurd hin (Nat.not_lt.mpr h.1)) hnew ?_
      rw [hd]
      dsimp only
      omega
    · have hskip : (back + 4294967296 - len) % 4294967296 = back - len := by omega
      have hout : ¬ fromOldest < len := Nat.not_lt.mpr hbehind
      have hless : back - len < min p.count (toNewest + 1) := by omega
      rw [if_neg hout, if_neg hout, hskip, if_pos hless, Nat.min_eq_left hless.le, ← ho, ← hd] at hnew
      refine dumpStart_stands ht hfits (hground fun h => absurd hnear (Nat.not_le.mpr h.2)) hnew ?_
      rw [hd]
      dsimp only
      omega
    · have hout : ¬ fromOldest < len := by omega
      have hcount : min p.count (toNewest + 1) = p.count := by omega
      have hlast : min (p.count - 1) toNewest = p.count - 1 := by omega
      have hskip : p.count ≤ (back + 4294967296 - len) % 4294967296 := by omega
      rw [if_neg hout, if_neg hout, hcount, hlast, if_neg (Nat.not_lt.mpr hskip), Nat.min_eq_right hskip, ← hd] at hnew
      have hends := dumpStart_ends ht hfits (hground fun h => by omega) hnone hroom hnew (by rw [hd]; exact Nat.zero_add _)
      rw [hends, hd]

/-! ## DUMP_BLOCK (R163, R164) -/

theorem dumpReady_of {s : State} {d : Dump} {c : Nat} (hd : s.archive.dump = some d) (hc : d.cursor = some c)
    (hcong : s.out.congested = false) (hentry : hasEntry s = true) (hquiet : d.quiet = true → anyGathering s.occ = false) :
    dumpReady s = true := by
  unfold dumpReady
  rw [hd]
  dsimp only
  rw [hc, hcong, hentry]
  cases hq : d.quiet with
  | false => rfl
  | true =>
    rw [hquiet hq]
    rfl

theorem produceBlock_eq {s : State} {d : Dump} {c : Nat} (hd : s.archive.dump = some d) (hc : d.cursor = some c)
    (hroom : RoomFor 1 s) {l : List SampleRecord} (hl : blockRecords s.archive.rings[d.head] d c = l) (hne : l ≠ []) :
    produceBlock s = endIfCovered (setDump (some (afterBlock d c l.length)) (told (.dump d.head c l) s)) := by
  unfold produceBlock
  rw [hd]
  dsimp only
  rw [hc]
  dsimp only
  rw [hl, if_neg (by simpa using hne), join_told Nat.one_pos (by exact hroom.congr rfl rfl rfl)]
  rfl

theorem dumpBlockSendsRecords : Claim.DumpBlockSendsRecords := by
  intro s d c k g l hd hc hcong hroom hr hq hquiet hg hcounter hc' hlast hlen hk hl hne
  subst hg
  have hone : RoomFor 1 s := hroom.mono (by decide)
  have hgather (h : d.quiet = true) : anyGathering s.occ = false := by
    rw [← Bool.not_eq_true, anyGathering_iff]
    rintro ⟨n, x, hx, hgx⟩
    exact Bool.false_ne_true ((hquiet h n x hx).symm.trans hgx)
  have hblock : blockRecords s.archive.rings[d.head] d c = l := by
    have hold : oldestSeq s.archive.rings[d.head] < 4294967296 := Nat.mod_lt _ (by decide)
    have hfrom : seqSub c (oldestSeq s.archive.rings[d.head]) = k := by
      rw [seqSub_eq _ hold, oldestSeq_eq hlen, hk]
      omega
    rw [blockRecords, hfrom, seqSub_eq _ hc', hl]
  have hready := dumpReady_of hd hc hcong (hasEntry_of_room Nat.one_pos hone hr) hgather
  have hexec : exec .dumpBlock s = .next (latchNext (endIfCovered
      (setDump (some (afterBlock d c l.length)) (told (.dump d.head c l) s)))) := by
    have hstep : exec .dumpBlock s = .next (if dumpReady s then latchNext (produceBlock s) else s) := rfl
    rw [hstep, if_pos hready, produceBlock_eq hd hc hone hblock hne]
  refine ⟨fun hopen => ?_, fun hcovered => ?_⟩
  · rw [hexec, endIfCovered_open (d := afterBlock d c l.length) rfl hopen, latchNext_quiet (by exact quiet_congr rfl rfl hq)]
    rfl
  · rw [hexec, endIfCovered_covered (d := afterBlock d c l.length) rfl hcovered,
      offerNotice_room (by exact (room_told hroom _).congr rfl rfl rfl) (by exact hr),
      latchNext_quiet (by exact quiet_congr rfl rfl hq)]
    rfl

/-! ## DUMP_STOP (R166) -/

theorem dumpStopEndsTheDump : Claim.DumpStopEndsTheDump := by
  intro h s ht
  obtain ⟨hatt, -, -⟩ := id ht
  refine ⟨fun hnone => ?_, fun d hd hroom => ?_⟩
  · exact exec_refuses rfl ht (handleFrame_dumpStop ..) (by simp [groundDumpStop, hnone])
  · refine exec_notes rfl ht (handleFrame_dumpStop ..) (by simp [groundDumpStop, hd]) ?_ rfl rfl rfl rfl (by exact room_told hroom _)
    rw [actDumpStop, done_room (hroom.mono (by decide)), endDump_some (d := d) (by exact hd)]
    rfl

/-- Settles O58: a dump's range is placed against the ring, its blocks go out and it ends with its notice. -/
theorem dumpsStartSendAndStop : Obligations.DumpsStartSendAndStop :=
  ⟨dumpStartPlacesTheRange, dumpBlockSendsRecords, dumpStopEndsTheDump⟩

end Sys2Proof.Machine
end

section
/-! PROOFS. The completion of a correction: what its record meets (R37, R83 to R88, R151, R153, R158): O29. -/

namespace Sys2Proof.Machine

-- One theorem at a time: side by side, the proofs ask for more threads than the check's memory limit has stacks for.
set_option Elab.async false

/-! ## Step 1 of R37 -/

theorem withoutTide_eq (r : SampleRecord) : withoutTide r =
    { r with
      tide := none
      corrected := r.calibrated.map fun g => g + r.tiltCorr + r.tempCorr } := by
  unfold withoutTide correctedOf
  simp only [Option.getD_none, add_zero]

theorem rebound_own {b : Binding} {c : Context} (h : b = .live c.tag) (r : SampleRecord) : rebound b (some c) r = r := by
  subst h
  exact if_pos rfl

theorem rebound_other {b : Binding} {c : Context} (h : b = .freed ∨ ∃ tag, b = .live tag ∧ tag ≠ c.tag) (r : SampleRecord) :
    rebound b (some c) r = withoutTide r := by
  obtain rfl | ⟨tag, rfl, hne⟩ := h
  · rfl
  · exact if_neg (Ne.symm hne)

theorem anotherContextsTideIsRemoved : Claim.AnotherContextsTideIsRemoved := by
  intro b o r
  refine ⟨fun ho => ?none, fun hb => ?uncopied, fun c ho => ?bound⟩
  case none =>
    subst ho
    rfl
  case uncopied =>
    subst hb
    cases o <;> rfl
  case bound =>
    subst ho
    exact ⟨fun h => rebound_own h r, fun h => (rebound_other h r).trans (withoutTide_eq r)⟩

/-! ## The disposition and its counts (R83, R86, R87) -/

theorem dispositionOf_stale {c : Context} {r : SampleRecord} (h : r.version ≠ c.version) (rate : Int) :
    dispositionOf c r rate = .discarded .stale := if_pos h

theorem dispositionOf_held {c : Context} {r : SampleRecord} (h : r.version = c.version) {w : HoldReason} (hst : c.state = .held w)
    (rate : Int) : dispositionOf c r rate = .discarded .held := by
  rw [dispositionOf, if_neg (not_not_intro h)]
  simp only [hst]

theorem dispositionOf_running {c : Context} {r : SampleRecord} (h : r.version = c.version) {b : Int} {e : Option Int}
    (hst : c.state = .running b e) (rate : Int) : dispositionOf c r rate =
      match failedGate c.policy c.acc r rate with
      | some cause => .rejected cause
      | none => .accepted := by
  rw [dispositionOf, if_neg (not_not_intro h)]
  simp only [hst] <;> rfl

theorem dispositionFollowsVersionAndState : Claim.DispositionFollowsVersionAndState := by
  intro r rate
  refine ⟨rfl, fun c d h => ?_⟩
  have hd : dispositionOf c r rate = d := by
    obtain ⟨hne, rfl⟩ | ⟨heq, h⟩ := h
    · exact dispositionOf_stale hne rate
    · obtain ⟨⟨e, hst⟩, rfl⟩ | ⟨hst, rfl⟩ | ⟨⟨w, hst⟩, rfl⟩ | ⟨⟨w, hst⟩, rfl⟩ | ⟨⟨b, e, hst⟩, h⟩ := h
      · rw [dispositionOf, if_neg (not_not_intro heq), hst]
      · rw [dispositionOf, if_neg (not_not_intro heq), hst]
      · exact dispositionOf_held heq hst rate
      · rw [dispositionOf, if_neg (not_not_intro heq), hst]
      · rw [dispositionOf_running heq hst]
        obtain ⟨cause, hgate, rfl⟩ | ⟨hgate, rfl⟩ := h <;> rw [hgate]
  rw [← hd]
  rfl

theorem countGap_eq (r : SampleRecord) (a : Accumulators) :
    countGap r a = { a with gaps := if r.gap.isSome then min (a.gaps + 1) 65535 else a.gaps } := by
  unfold countGap
  split <;> rfl

theorem countsFollowTheDisposition : Claim.CountsFollowTheDisposition := by
  intro r a gaps hg
  subst hg
  refine ⟨fun cause => ?_, countGap_eq .., countGap_eq .., countGap_eq .., rfl, rfl, rfl⟩
  cases cause <;> exact countGap_eq ..

theorem leastWith_eq (y : Int) (o : Option Int) : leastWith y o = some (match o with
    | none => y
    | some m => min m y) := by
  cases o with
  | none => rfl
  | some m =>
    simp only [leastWith, Option.some.injEq]
    split <;> omega

theorem greatestWith_eq (y : Int) (o : Option Int) : greatestWith y o = some (match o with
    | none => y
    | some m => max m y) := by
  cases o with
  | none => rfl
  | some m =>
    simp only [greatestWith, Option.some.injEq]
    split <;> omega

theorem countDisposition_accepted_eq {r : SampleRecord} {y : Int} (hy : r.corrected = some y) (a : Accumulators) :
    countDisposition .accepted r a =
      { a with
        accepted := a.accepted + 1
        gravity := a.gravity + y
        squares := a.squares + y * y
        tilt := a.tilt + r.tiltCorr
        temp := a.temp + r.tempCorr
        tide := a.tide + r.tide.getD 0
        tideAbsent := if r.tide.isNone then min (a.tideAbsent + 1) 65535 else a.tideAbsent
        gaps := if r.gap.isSome then min (a.gaps + 1) 65535 else a.gaps
        first := some (a.first.getD r.time)
        last := some r.time
        least := some (match a.least with
          | none => y
          | some m => min m y)
        greatest := some (match a.greatest with
          | none => y
          | some m => max m y) } := by
  rw [countDisposition, countGap_eq, accumulate, hy, Option.getD_some, leastWith_eq, greatestWith_eq]
  rfl

/-! ## The disposition in the head's slot (R86 to R88) -/

section
variable {n : Head} {d : SampleRecord} {s : State} {c : Context}

theorem disposeIn_none (h : s.occ.active[n] = none) : disposeIn n d s = s := by
  unfold disposeIn
  rw [h]

theorem disposeIn_counts (hc : s.occ.active[n] = some c)
    (h : ¬ (d.disposition = .accepted ∧ c.policy.target ≤ (countDisposition d.disposition d c.acc).accepted)) :
    disposeIn n d s = setActive n (some (afterDisposition d.disposition d c)) s := by
  unfold disposeIn
  rw [hc]
  exact if_neg h

theorem disposeIn_completes (hc : s.occ.active[n] = some c)
    (h : d.disposition = .accepted ∧ c.policy.target ≤ (countDisposition d.disposition d c.acc).accepted) :
    disposeIn n d s = complete n (afterDisposition d.disposition d c) .target s := by
  unfold disposeIn
  rw [hc]
  exact (if_pos h).trans (complete_setActive ..)

end

theorem reachingTheTargetCompletes : Claim.ReachingTheTargetCompletes := by
  intro n d s
  refine ⟨disposeIn_none, fun c c1 x hc hc1 => ?_⟩
  have hafter : afterDisposition d.disposition d c = c1 := hc1.symm
  have hacc : countDisposition d.disposition d c.acc = c1.acc := by rw [hc1]
  have hpolicy : c1.policy = c.policy := by rw [hc1]
  have hleave : leaveList c1 s = leaveList c s := by rw [hc1]; exact leaveList_congr rfl rfl s
  have htag : c1.tag = c.tag ∧ c1.station = c.station := by rw [hc1]; exact ⟨rfl, rfl⟩
  refine ⟨fun hshort => ?short, fun hacc' hfull hwaiting hx => ?full⟩
  case short =>
    rw [disposeIn_counts hc, hafter]
    · rfl
    · rintro ⟨ha, hle⟩
      rw [hacc, ← hpolicy] at hle
      exact hshort.elim (fun h => h ha) (Nat.not_lt.mpr hle)
  case full =>
    have hcompletes : disposeIn n d s = complete n c1 .target s := by
      rw [disposeIn_completes hc ⟨hacc', by rw [hacc, ← hpolicy]; exact hfull⟩, hafter]
    have hx : completed s.clock.time .target c1 = x := hx.symm
    rw [hcompletes]
    refine ⟨fun hroom hr => ?_, fun hfull => ?_⟩
    · rw [complete_joins .target hwaiting hroom hr, hx, hleave, htag.1, htag.2]
    · rw [complete_waits .target hfull, enterComplete_eq, hx, hleave, hwaiting, List.nil_append]

/-! ## The append (R157, R158, R165) -/

section
variable {r : SampleRecord} {s : State}

theorem archiveRecord_closed (h : Config.capacity s.settings.plan r.head = 0) : archiveRecord r s = s := if_pos h

theorem archiveRecord_room (h : s.archive.rings[r.head].records.length < Config.capacity s.settings.plan r.head) : archiveRecord r s =
    setRing r.head
      { records := s.archive.rings[r.head].records ++ [{ r with seq := s.archive.rings[r.head].counter }]
        counter := (s.archive.rings[r.head].counter + 1) % 4294967296 } s := by
  have hpos : Config.capacity s.settings.plan r.head ≠ 0 := by omega
  unfold archiveRecord
  dsimp only
  rw [if_neg hpos, if_pos h, appendRing, if_pos h]
  rfl

theorem archiveRecord_full (hpos : Config.capacity s.settings.plan r.head ≠ 0)
    (h : Config.capacity s.settings.plan r.head ≤ s.archive.rings[r.head].records.length) : archiveRecord r s =
    overwritten r.head (oldestSeq s.archive.rings[r.head]) (setRing r.head
      { records := s.archive.rings[r.head].records.drop 1 ++ [{ r with seq := s.archive.rings[r.head].counter }]
        counter := (s.archive.rings[r.head].counter + 1) % 4294967296 } s) := by
  unfold archiveRecord
  dsimp only
  rw [if_neg hpos, if_neg (Nat.not_lt.mpr h), appendRing, if_neg (Nat.not_lt.mpr h)]
  rfl

theorem overwritten_apart {n : Head} {q : Nat} (h : s.archive.dump = none ∨
    ∃ d, s.archive.dump = some d ∧ (d.head ≠ n ∨ d.cursor ≠ some q)) : overwritten n q s = s := by
  unfold overwritten
  obtain hnone | ⟨d, hd, hne⟩ := h
  · rw [hnone]
  · rw [hd]
    exact if_neg fun ⟨hhead, hcursor⟩ => hne.elim (fun h => h hhead) fun h => h hcursor

theorem overwritten_cursor {n : Head} {q : Nat} {d : Dump} (hd : s.archive.dump = some d) (hhead : d.head = n)
    (hcursor : d.cursor = some q) : overwritten n q s = endIfCovered (setDump (some (skipCursor d q)) s) := by
  unfold overwritten
  rw [hd]
  exact if_pos ⟨hhead, hcursor⟩

end

theorem appendOverwritesTheOldest : Claim.AppendOverwritesTheOldest := by
  intro r s t n g capacity oldest hn hg hcap hold ht
  subst hn hg
  have hcap : Config.capacity s.settings.plan r.head = capacity := hcap.symm
  have hold : oldestSeq s.archive.rings[r.head] = oldest := hold.symm
  refine ⟨fun hzero => archiveRecord_closed (hcap.trans hzero), fun hpos => ⟨fun hkeeps => ?keeps, fun hfull d hd hhead hcursor => ?skips⟩⟩
  all_goals have hne : Config.capacity s.settings.plan r.head ≠ 0 := by omega
  case keeps =>
    obtain hroom | hfull := Nat.lt_or_ge s.archive.rings[r.head].records.length capacity
    · rw [archiveRecord_room (by rw [hcap]; exact hroom), ht, if_pos hroom]
      rfl
    · rw [archiveRecord_full hne (by rw [hcap]; exact hfull), hold,
        overwritten_apart (by exact hkeeps.resolve_left (Nat.not_lt.mpr hfull)), ht, if_neg (Nat.not_lt.mpr hfull)]
      rfl
  case skips =>
    rw [if_neg (Nat.not_lt.mpr hfull)] at ht
    rw [archiveRecord_full hne (by rw [hcap]; exact hfull), hold, overwritten_cursor (by exact hd) hhead hcursor]
    refine ⟨fun hopen => ?_, fun hcovered hroom hr => ?_⟩
    · rw [endIfCovered_open (d := skipCursor d oldest) rfl hopen, ht]
      rfl
    · rw [endIfCovered_covered (d := skipCursor d oldest) rfl hcovered,
        offerNotice_room (by exact hroom.congr rfl rfl rfl) (by exact hr), show (skipCursor d oldest).head = r.head from hhead, ht]
      rfl

/-! ## Streaming (R151, R153) -/

/-- The flags of a record agree with a selector's value at every flag of its mask. -/
theorem streamFlags_agree {r : SampleRecord} {mask value : BitVec 4} : (streamFlags r &&& mask == value &&& mask) = true ↔
    ∀ b : Nat, b < 4 → mask.getLsbD b = true →
      [r.gap.isSome, r.backlog, r.tide.isNone, r.calibrated.isNone][b]? = some (value.getLsbD b) := by
  have hflag : ∀ b : Nat, b < 4 →
      [r.gap.isSome, r.backlog, r.tide.isNone, r.calibrated.isNone][b]? = some ((streamFlags r).getLsbD b) := by
    unfold streamFlags
    generalize r.gap.isSome = b0
    generalize r.backlog = b1
    generalize r.tide.isNone = b2
    generalize r.calibrated.isNone = b3
    revert b0 b1 b2 b3
    decide
  rw [beq_iff_eq, BitVec.eq_of_getLsbD_eq_iff]
  refine forall₂_congr fun b hb => ?_
  rw [hflag b hb, BitVec.getLsbD_and, BitVec.getLsbD_and, Option.some.injEq]
  cases mask.getLsbD b <;> simp

theorem selectorMatches_iff {sel : Selector} {r : SampleRecord} : selectorMatches sel r = true ↔
    sel.enable = true ∧ sel.heads.getLsbD r.head.val = true ∧ sel.classes.getLsbD (classIndex r.disposition) = true ∧
      ∀ b : Nat, b < 4 → sel.mask.getLsbD b = true →
        [r.gap.isSome, r.backlog, r.tide.isNone, r.calibrated.isNone][b]? = some (sel.value.getLsbD b) := by
  rw [← streamFlags_agree, selectorMatches, Bool.and_eq_true, Bool.and_eq_true, Bool.and_eq_true, and_assoc, and_assoc]
  rfl

theorem streamed_iff {t : Settings} {r : SampleRecord} :
    streamed t r = true ↔ ∃ j : Fin 4, selectorMatches t.selectors[j] r = true := by
  rw [streamed, Bool.or_eq_true, Bool.or_eq_true, Bool.or_eq_true]
  constructor
  · rintro (((h | h) | h) | h)
    exacts [⟨0, h⟩, ⟨1, h⟩, ⟨2, h⟩, ⟨3, h⟩]
  · rintro ⟨j, h⟩
    fin_cases j
    exacts [.inl (.inl (.inl h)), .inl (.inl (.inr h)), .inl (.inr h), .inr h]

theorem streamRecord_apart {r : SampleRecord} {s : State} (h : streamed s.settings r = false) : streamRecord r s = s :=
  if_neg (by simp [h])

theorem setBatch_setBatch (n : Head) (b q : Batch) (s : State) : setBatch n b (setBatch n q s) = setBatch n b s := by
  have hset : (s.batches.set n q).set n b = s.batches.set n b := Vector.set_set ..
  unfold setBatch
  dsimp only
  rw [hset]

theorem selectedRecordsJoinTheBatch : Claim.SelectedRecordsJoinTheBatch := by
  intro r s cls selected hcls hsel
  have hcls : cls = classIndex r.disposition := by
    rw [hcls]
    cases r.disposition <;> rfl
  subst hcls
  have hiff : selected ↔ streamed s.settings r = true := by
    rw [hsel, streamed_iff]
    exact exists_congr fun j => selectorMatches_iff.symm
  refine ⟨fun hnot => streamRecord_apart (Bool.eq_false_iff.mpr fun h => hnot (hiff.mpr h)), fun hyes n l e hn hl he => ?_⟩
  subst hn
  have hexpiry : (if s.batches[r.head].records.isEmpty then some ((now s : Int) + s.settings.flush) else s.batches[r.head].expiry) = e := by
    rw [he]
    simp only [List.isEmpty_iff]
    rfl
  have hstream : streamRecord r s = if s.settings.threshold ≤ l.length then
      offerBatch r.head .threshold (setBatch r.head { records := l, expiry := e } s)
      else setBatch r.head { records := l, expiry := e } s := by
    rw [streamRecord, if_pos (hiff.mp hyes), appendBatch, hexpiry, hl]
  have hown : (setBatch r.head { records := l, expiry := e } s).batches[r.head] = { records := l, expiry := e } := vget_set_self ..
  refine ⟨fun hshort => ?_, fun hfull => ⟨fun hroom hc hr => ?_, fun hdrop => ?_⟩⟩
  · rw [hstream, if_neg (Nat.not_le.mpr hshort)]
    rfl
  · rw [hstream, if_pos hfull, offerBatch_joins (by exact hroom.congr rfl rfl rfl) (by exact hc) (by exact hr), hown, setBatch_setBatch]
    rfl
  · rw [hstream, if_pos hfull, offerBatch_discarded (by exact hdrop), hown, setBatch_setBatch]
    rfl

/-! ## The order of the hand-on (R37) -/

theorem exec_correctionComplete {s : State} {k : Correction} (h : s.corr.inFlight = some k) :
    exec .correctionComplete s = .next (latchNext (finishCorrection k s)) := by
  have hexec : exec .correctionComplete s = execCorrectionComplete s := rfl
  rw [hexec, execCorrectionComplete, h]

theorem disposeIn_cal (n : Head) (r : SampleRecord) (s : State) : (disposeIn n r s).cal = s.cal := by
  unfold disposeIn
  split
  · rfl
  · rename_i c _
    dsimp only
    split
    · obtain ⟨o, e, oc, j, t, k, h⟩ :=
        complete_frame n (afterDisposition r.disposition r c) .target (setActive n (some (afterDisposition r.disposition r c)) s)
      rw [h]
      rfl
    · rfl

/-! A hand-on changes the correction in flight at most; nothing else of the correction unit. -/

/-- The correction unit with no correction in flight. -/
def ended (s : State) : CorrectionUnit := { s.corr with inFlight := none }

theorem unbindTag_ended (tag : Nat) (s : State) : ended (unbindTag tag s) = ended s := by
  unfold unbindTag
  split
  · rfl
  · split <;> rfl

theorem freeActive_ended (n : Head) (c : Context) (s : State) : ended (freeActive n c s) = ended s := by
  rw [freeActive_eq]
  exact unbindTag_ended c.tag s

theorem joinReading_ended (s : State) : ended (joinReading s) = ended s := by
  unfold joinReading
  split
  · rfl
  · split
    · split
      · rfl
      · rename_i c _
        split
        · rfl
        · rename_i r _
          obtain ⟨o, e, h⟩ := join_frame (.reading (makeReading c r)) s
          rw [freeActive_ended, h]
          rfl
    · rfl

theorem complete_ended (n : Head) (c : Context) (r : CompletionReason) (s : State) : ended (complete n c r s) = ended s := by
  rw [complete, offerReadings, joinReading_ended, joinReading_ended, joinReading_ended, joinReading_ended, enterComplete_eq]
  rfl

theorem disposeIn_ended (n : Head) (r : SampleRecord) (s : State) : ended (disposeIn n r s) = ended s := by
  unfold disposeIn
  split
  · rfl
  · dsimp only
    split
    · exact complete_ended ..
    · rfl

theorem setCause_ended (n : Head) (f : FaultCause) (s : State) : ended (setCause n f s) = ended s := by
  obtain ⟨o, e, oc, j, p, h⟩ := setCause_frame n f s
  rw [h]
  rfl

theorem endIfCovered_ended (s : State) : ended (endIfCovered s) = ended s := by
  cases hd : s.archive.dump with
  | none =>
    unfold endIfCovered
    rw [hd]
  | some d =>
    by_cases h : d.sent + d.skipped = d.length
    · obtain ⟨o, e, hn⟩ := offerNotice_frame (.dumpEnd d.head d.sent d.skipped true) (setDump none s)
      rw [endIfCovered_covered hd h, hn]
      rfl
    · rw [endIfCovered_open hd h]

theorem archiveRecord_ended (r : SampleRecord) (s : State) : ended (archiveRecord r s) = ended s := by
  unfold archiveRecord overwritten
  dsimp only
  split
  · rfl
  · split
    · rfl
    · split
      · rfl
      · split
        · exact endIfCovered_ended (setDump _ (setRing _ _ s))
        · rfl

theorem streamRecord_ended (r : SampleRecord) (s : State) : ended (streamRecord r s) = ended s := by
  unfold streamRecord appendBatch
  dsimp only
  split
  · split
    · obtain ⟨o, e, b, h⟩ := offerBatch_frame r.head .threshold (setBatch r.head _ s)
      rw [h]
      rfl
    · rfl
  · rfl

theorem correctionCompleteFollowsTheOrder : Claim.CorrectionCompleteFollowsTheOrder := by
  intro s s2 s4 s6 k n r d e hk hn hr hd h2 h4 he h6
  have hset : s2 = setLag n (correct k).lag (disposeIn n d s) := by
    rw [h2, setLag, disposeIn_cal]
  have hcause : s4 = if d.calibrated.isNone then setCause n .calRange s2 else s2 :=
    h4.trans (if_congr Option.isNone_iff_eq_none.symm rfl rfl)
  have hended : ended s6 = ended s := by
    have hlag : ended s2 = ended s := by
      rw [hset]
      exact disposeIn_ended n d s
    rw [h6, streamRecord_ended, archiveRecord_ended, h4]
    split
    · rw [setCause_ended, hlag]
    · exact hlag
  have hfinish : finishCorrection k s = grant { s6 with corr := ended s6 } := by
    subst h6 he hcause hset hd hr hn
    rfl
  rw [exec_correctionComplete hk, hfinish, hended]
  rfl

theorem grant_frame (s : State) : ∃ l c, grant s = { s with partitions := l, corr := c } := by
  unfold grant
  split
  · unfold grantHead
    split
    · exact ⟨_, _, rfl⟩
    · exact ⟨_, _, rfl⟩
  · exact ⟨_, _, rfl⟩
  · exact ⟨_, _, rfl⟩

/-- A record that raises no fault cause, is streamed nowhere and finds room in its ring. -/
theorem correctionComplete_unstreamed {s : State} {k : Correction} {n : Head} {d : SampleRecord} {o : Vector (Option Context) 4} {g : Int}
    (hk : s.corr.inFlight = some k) (hn : n = k.sample.head) (hq : Quiet s)
    (hoff : ∀ m : Fin 4, s.settings.selectors[m].enable = false)
    (hroom : s.archive.rings[n].records.length < 128 * Config.share s.settings.plan n)
    (hd : d = disposed s.occ.active[n] (rebound k.bound s.occ.active[n] (correct k).record) (correct k).rate)
    (hhead : d.head = n) (hcal : d.calibrated = some g)
    (hdispose : disposeIn n d s = { s with occ := { s.occ with active := o } }) : exec .correctionComplete s = .next (grant
      { s with
        occ := { s.occ with active := o }
        cal := { s.cal with lag := s.cal.lag.set n (correct k).lag }
        archive := { s.archive with
          rings := s.archive.rings.set n
            { records := s.archive.rings[n].records ++ [{ d with seq := s.archive.rings[n].counter }]
              counter := (s.archive.rings[n].counter + 1) % 4294967296 } }
        corr := { s.corr with inFlight := none } }) := by
  have hstill (r : SampleRecord) : streamed s.settings r = false := by
    rw [← Bool.not_eq_true, streamed_iff]
    rintro ⟨j, hj⟩
    obtain ⟨henable, -⟩ := selectorMatches_iff.mp hj
    exact Bool.false_ne_true ((hoff j).symm.trans henable)
  have hquiet (t : State) (he : t.events = s.events) (hs : t.settings = s.settings) : latchNext (grant t) = grant t := by
    obtain ⟨l, c, hg⟩ := grant_frame t
    rw [hg]
    exact latchNext_quiet (by exact quiet_congr he (congrArg Settings.sources hs) hq)
  subst hhead
  obtain ⟨u, hu⟩ : ∃ u : State, u =
    { s with occ := { s.occ with active := o }, cal := { s.cal with lag := s.cal.lag.set d.head (correct k).lag } } := ⟨_, rfl⟩
  have hu2 : u = { disposeIn d.head d s with cal := { s.cal with lag := s.cal.lag.set d.head (correct k).lag } } := by rw [hu, hdispose]
  have hu4 : u = if d.calibrated = none then setCause d.head .calRange u else u :=
    (if_neg (by rw [hcal]; exact Option.some_ne_none g)).symm
  have harchive : archiveRecord { d with seq := u.archive.rings[d.head].counter } u = setRing d.head
      { records := u.archive.rings[d.head].records ++ [{ d with seq := u.archive.rings[d.head].counter }]
        counter := (u.archive.rings[d.head].counter + 1) % 4294967296 } u := archiveRecord_room (by rw [hu]; exact hroom)
  have hstream : streamRecord { d with seq := u.archive.rings[d.head].counter }
      (archiveRecord { d with seq := u.archive.rings[d.head].counter } u) =
        archiveRecord { d with seq := u.archive.rings[d.head].counter } u :=
    streamRecord_apart (by rw [harchive, hu]; exact hstill _)
  rw [correctionCompleteFollowsTheOrder s u u _ k d.head _ d _ hk hn rfl hd hu2 hu4 rfl rfl, hstream, harchive,
    hquiet _ (by rw [hu]; rfl) (by rw [hu]; rfl), hu]
  rfl

theorem correctionCompleteWithoutStreaming : Claim.CorrectionCompleteWithoutStreaming := by
  intro s k n f g hk hn hf hg hq hoff hroom after hafter
  subst hf
  have hexec {o : Vector (Option Context) 4} {r : SampleRecord} {d : Disposition} {tag : Option Nat}
      (hr : r = { (correct k).record with disposition := d, tag := tag })
      (hd : r = disposed s.occ.active[n] (rebound k.bound s.occ.active[n] (correct k).record) (correct k).rate)
      (hdispose : disposeIn n r s = { s with occ := { s.occ with active := o } }) :
      exec .correctionComplete s = .next (after { (correct k).record with disposition := d, tag := tag } o) := by
    rw [correctionComplete_unstreamed hk hn hq hoff hroom hd (by rw [hr]; exact hn.symm) (by rw [hr]; exact hg) hdispose, hafter, hr]
  refine ⟨fun hnone => ?unbound, fun c hc hb gaps hgaps => ?bound⟩
  case unbound => exact hexec rfl (by rw [hnone]; rfl) (disposeIn_none hnone)
  case bound =>
    have hdisposed {d : Disposition} (h : dispositionOf c (correct k).record (correct k).rate = d) :
        { (correct k).record with disposition := d, tag := some c.tag } =
          disposed s.occ.active[n] (rebound k.bound s.occ.active[n] (correct k).record) (correct k).rate := by
      rw [hc, rebound_own hb, disposed, h]
    have hsame (d : DiscardReason) (r : SampleRecord) :
        (c.flags.tidePartial || (Disposition.discarded d == .accepted && r.tide.isNone)) = c.flags.tidePartial := Bool.or_false _
    refine ⟨fun hv => ?stale, fun hv w hst => ?held, fun hv b e y hst hgate hy hshort => ?accepted⟩
    case stale =>
      refine hexec rfl (hdisposed (dispositionOf_stale hv _)) ?_
      have hslot : s.occ.active.set n (some c) = s.occ.active := by
        rw [← hc]
        exact Vector.set_getElem_self ..
      rw [disposeIn_counts hc fun h => Disposition.noConfusion h.1, afterDisposition, hsame]
      change { s with occ := { s.occ with active := s.occ.active.set n (some c) } } = _
      rw [hslot]
    case held =>
      refine hexec rfl (hdisposed (dispositionOf_held hv hst _)) ?_
      rw [disposeIn_counts hc fun h => Disposition.noConfusion h.1, afterDisposition, hsame, countDisposition, countGap_eq, hgaps]
      rfl
    case accepted =>
      refine hexec rfl (hdisposed ((dispositionOf_running hv hst _).trans (by rw [hgate]))) ?_
      have hcount := countDisposition_accepted_eq
        (r := { (correct k).record with disposition := .accepted, tag := some c.tag }) hy c.acc
      have hbelow : ¬ c.policy.target ≤ c.acc.accepted + 1 := Nat.not_le.mpr hshort
      rw [disposeIn_counts hc (by rw [hcount]; exact fun h => hbelow h.2), afterDisposition, hcount, hgaps]
      rfl

/-- Settles O29: the completion of a correction hands its record on through disposition, archive and stream in the order of R37. -/
theorem correctionCompleteHandsTheRecordOn : Obligations.CorrectionCompleteHandsTheRecordOn :=
  ⟨correctionCompleteWithoutStreaming, correctionCompleteFollowsTheOrder, anotherContextsTideIsRemoved,
    dispositionFollowsVersionAndState, countsFollowTheDisposition, reachingTheTargetCompletes, appendOverwritesTheOldest,
    selectedRecordsJoinTheBatch⟩

end Sys2Proof.Machine
end

section
/-! PROOFS. Sums of roots of unity that vanish: the exact test behind a halfway tide sum (R56; log 9). -/

namespace Sys2Proof.Machine

-- One theorem at a time: side by side, the proofs ask for more threads than the check's memory limit has stacks for.
set_option Elab.async false

/-! ## Roots of unity -/

/-- The first root of unity of an order. -/
noncomputable def unityRoot (m : Nat) : ℂ := Complex.exp (2 * Real.pi * Complex.I / m)

theorem unityRoot_primitive {m : Nat} (hm : m ≠ 0) : IsPrimitiveRoot (unityRoot m) m := Complex.isPrimitiveRoot_exp m hm

theorem unityRoot_one : unityRoot 1 = 1 := by
  have h := (unityRoot_primitive one_ne_zero).pow_eq_one
  rwa [pow_one] at h

theorem unityRoot_pow {p : Nat} (n : Nat) (hp : p ≠ 0) : unityRoot (p * n) ^ p = unityRoot n := by
  have hp : (p : ℂ) ≠ 0 := by exact_mod_cast hp
  unfold unityRoot
  rw [← Complex.exp_nat_mul]
  congr 1
  push_cast
  field_simp

/-- A whole number of angle steps as a power of the root of unity. -/
theorem unityRoot_toNat {m : Nat} (hm : m ≠ 0) (j : Int) :
    unityRoot m ^ (j % (m : Int)).toNat = Complex.exp (2 * Real.pi * j / m * Complex.I) := by
  have hm' : (m : ℂ) ≠ 0 := by exact_mod_cast hm
  have hnat : (((j % (m : Int)).toNat : Nat) : ℂ) = j - m * (j / (m : Int) : Int) := by
    have hint : (((j % (m : Int)).toNat : Nat) : Int) = j - m * (j / (m : Int)) := by
      rw [Int.toNat_of_nonneg (Int.emod_nonneg _ (by exact_mod_cast hm)), Int.emod_def]
    exact_mod_cast congrArg (Int.cast : Int → ℂ) hint
  unfold unityRoot
  rw [← Complex.exp_nat_mul, hnat, Complex.exp_eq_exp_iff_exists_int]
  refine ⟨-(j / (m : Int)), ?_⟩
  push_cast
  field_simp
  ring

/-! ## Weighted sums of powers -/

/-- A sum of weighted powers. -/
def powerSum (z : ℂ) (l : List (Int × Nat)) : ℂ := (l.map fun y => (y.1 : ℂ) * z ^ y.2).sum

theorem powerSum_nil (z : ℂ) : powerSum z [] = 0 := rfl

theorem powerSum_cons (z : ℂ) (y : Int × Nat) (l : List (Int × Nat)) : powerSum z (y :: l) = y.1 * z ^ y.2 + powerSum z l := by
  simp [powerSum]

theorem powerSum_append (z : ℂ) (l k : List (Int × Nat)) : powerSum z (l ++ k) = powerSum z l + powerSum z k := by
  simp [powerSum]

theorem powerSum_neg (z : ℂ) (l : List (Int × Nat)) : powerSum z (l.map fun y => (-y.1, y.2)) = -powerSum z l := by
  induction l with
  | nil => simp [powerSum]
  | cons y l ih =>
    rw [List.map_cons, powerSum_cons, powerSum_cons, ih]
    push_cast
    ring

theorem powerSum_one (l : List (Int × Nat)) : powerSum 1 l = ((l.map fun y => y.1).sum : Int) := by
  simp [powerSum, Int.cast_list_sum, Function.comp_def]

/-- A sum whose powers fall each into one class of a partition is the sum of its classes. -/
theorem powerSum_partition {z x : ℂ} {s : Finset Nat} {c : Nat → ℂ} {q : Nat → Int × Nat → Bool} {g : Nat → Int × Nat → Nat}
    {l : List (Int × Nat)} (h : ∀ y ∈ l, ∃ r ∈ s, q r y = true ∧ (∀ k ∈ s, q k y = true → k = r) ∧ z ^ y.2 = c r * x ^ g r y) :
    powerSum z l = ∑ r ∈ s, c r * powerSum x ((l.filter (q r)).map fun y => (y.1, g r y)) := by
  induction l with
  | nil => simp [powerSum]
  | cons y l ih =>
    obtain ⟨r, hr, hq, hone, hpow⟩ := h y (List.mem_cons_self ..)
    have hterm (k : Nat) : c k * powerSum x (((y :: l).filter (q k)).map fun y => (y.1, g k y)) =
        (if q k y then c k * (y.1 * x ^ g k y) else 0) + c k * powerSum x ((l.filter (q k)).map fun y => (y.1, g k y)) := by
      rw [List.filter_cons]
      split
      · rw [List.map_cons, powerSum_cons, mul_add]
      · rw [zero_add]
    have hsingle : ∑ k ∈ s, (if q k y then c k * (y.1 * x ^ g k y) else 0) = y.1 * z ^ y.2 := by
      rw [Finset.sum_eq_single_of_mem r hr fun k hk hne => if_neg fun hqk => hne (hone k hk hqk), if_pos hq, hpow]
      ring
    rw [powerSum_cons, ih fun y hy => h y (List.mem_cons_of_mem _ hy), Finset.sum_congr rfl fun k _ => hterm k,
      Finset.sum_add_distrib, hsingle]

/-! ## The test of vanishing -/

/-- Among p shifts by n, one alone makes a power divisible by a prime p that does not divide n. -/
theorem exists_shift {p n : Nat} (hp : p.Prime) (hn : n % p ≠ 0) (e : Nat) :
    ∃ k ∈ Finset.range p, (e + k * n) % p = 0 ∧ ∀ j ∈ Finset.range p, (e + j * n) % p = 0 → j = k := by
  have hcop : p.Coprime n := (Nat.Prime.coprime_iff_not_dvd hp).mpr fun h => hn (Nat.mod_eq_zero_of_dvd h)
  have : Fact p.Prime := ⟨hp⟩
  have hunit : (n : ZMod p) ≠ 0 := fun h => hn (Nat.mod_eq_zero_of_dvd ((ZMod.natCast_eq_zero_iff n p).mp h))
  have hzero : (e + (-(e : ZMod p) * (n : ZMod p)⁻¹).val * n) % p = 0 := by
    refine Nat.mod_eq_zero_of_dvd ((ZMod.natCast_eq_zero_iff _ p).mp ?_)
    push_cast
    rw [ZMod.natCast_val, ZMod.cast_id', id, mul_assoc, inv_mul_cancel₀ hunit, mul_one, add_neg_cancel]
  refine ⟨_, Finset.mem_range.mpr (ZMod.val_lt _), hzero, fun j hj hjz => ?_⟩
  have hmod : j * n ≡ (-(e : ZMod p) * (n : ZMod p)⁻¹).val * n [MOD p] :=
    Nat.ModEq.add_left_cancel' e (hjz.trans hzero.symm)
  exact Nat.ModEq.eq_of_lt_of_lt (Nat.ModEq.cancel_right_of_coprime hcop hmod) (Finset.mem_range.mp hj) (ZMod.val_lt _)

/-- The sum of the inverse powers of a root of prime order is 0. -/
theorem inverse_geom_sum {p n : Nat} (hp : p.Prime) (hn : n ≠ 0) : ∑ k ∈ Finset.range p, (unityRoot (p * n) ^ (k * n))⁻¹ = 0 := by
  have hprim : IsPrimitiveRoot (unityRoot (p * n) ^ n)⁻¹ p := by
    rw [mul_comm, unityRoot_pow p hn]
    exact (unityRoot_primitive hp.ne_zero).inv
  rw [← hprim.geom_sum_eq_zero hp.one_lt]
  refine Finset.sum_congr rfl fun k _ => ?_
  rw [inv_pow, ← pow_mul, mul_comm k n]

/-- What passes the test of vanishing is 0. -/
theorem rootsVanish_sound {ps : List Nat} {m : Nat} {l : List (Int × Nat)} (hps : ∀ p ∈ ps, p.Prime) (hm : ps.prod = m)
    (h : rootsVanish ps m l = true) : powerSum (unityRoot m) l = 0 := by
  induction ps generalizing m l with
  | nil =>
    subst hm
    have hsum : (l.map fun y => y.1).sum = 0 := by simpa [rootsVanish] using h
    rw [List.prod_nil, unityRoot_one, powerSum_one, hsum, Int.cast_zero]
  | cons p ps ih =>
    obtain ⟨hp, hps⟩ := List.forall_mem_cons.mp hps
    obtain ⟨n, hn⟩ : ∃ n, ps.prod = n := ⟨_, rfl⟩
    have hn0 : n ≠ 0 := hn ▸ List.prod_ne_zero fun h0 => Nat.not_prime_zero (hps 0 h0)
    rw [List.prod_cons, hn] at hm
    subst hm
    have hdiv : p * n / p = n := Nat.mul_div_cancel_left n hp.pos
    unfold rootsVanish at h
    simp only [hdiv] at h
    split at h
    · rename_i hempty
      rw [List.isEmpty_iff.mp hempty, powerSum_nil]
    · split at h
      · have hpart (r : Nat) (hr : r ∈ Finset.range p) :
            powerSum (unityRoot n) ((l.filter fun y => y.2 % p == r).map fun y => (y.1, y.2 / p)) = 0 :=
          ih hps hn (List.all_eq_true.mp h r (List.mem_range.mpr (Finset.mem_range.mp hr)))
        rw [powerSum_partition (s := Finset.range p) (x := unityRoot n) (c := fun r => unityRoot (p * n) ^ r)
          (q := fun r y => y.2 % p == r) (g := fun _ y => y.2 / p) fun y _ => ?_]
        · exact Finset.sum_eq_zero fun r hr => by rw [hpart r hr, mul_zero]
        · refine ⟨y.2 % p, Finset.mem_range.mpr (Nat.mod_lt _ hp.pos), beq_self_eq_true _, fun k _ hk => (beq_iff_eq.mp hk).symm, ?_⟩
          rw [← unityRoot_pow n hp.ne_zero, ← pow_mul, ← pow_add, Nat.mod_add_div]
      · rename_i hnp
        obtain ⟨part, hpart⟩ : ∃ part : Nat → List (Int × Nat), part = fun k =>
          (l.filter fun y => (y.2 + k * n) % p == 0).map fun y => (y.1, (y.2 + k * n) / p % n) := ⟨_, rfl⟩
        have hsame (k : Nat) (hk : k ∈ Finset.range p) : powerSum (unityRoot n) (part k) = powerSum (unityRoot n) (part (p - 1)) := by
          by_cases hlast : k = p - 1
          · rw [hlast]
          · have hlt : k < p - 1 := by
              have := Finset.mem_range.mp hk
              omega
            have hvanish := ih hps hn (List.all_eq_true.mp h k (List.mem_range.mpr hlt))
            rw [powerSum_append, powerSum_neg, ← sub_eq_add_neg, sub_eq_zero] at hvanish
            rw [hpart]
            exact hvanish
        rw [powerSum_partition (s := Finset.range p) (x := unityRoot n) (c := fun k => (unityRoot (p * n) ^ (k * n))⁻¹)
          (q := fun k y => (y.2 + k * n) % p == 0) (g := fun k y => (y.2 + k * n) / p % n) fun y _ => ?_]
        · have heq : ∀ k ∈ Finset.range p, (unityRoot (p * n) ^ (k * n))⁻¹ * powerSum (unityRoot n)
              ((l.filter fun y => (y.2 + k * n) % p == 0).map fun y => (y.1, (y.2 + k * n) / p % n)) =
                (unityRoot (p * n) ^ (k * n))⁻¹ * powerSum (unityRoot n) (part (p - 1)) := fun k hk => by
            rw [← hsame k hk, hpart]
          rw [Finset.sum_congr rfl heq, ← Finset.sum_mul, inverse_geom_sum hp hn0, zero_mul]
        · obtain ⟨k, hk, hzero, hone⟩ := exists_shift hp hnp y.2
          refine ⟨k, hk, beq_iff_eq.mpr hzero, fun j hj hj' => hone j hj (beq_iff_eq.mp hj'), ?_⟩
          have hne : unityRoot (p * n) ^ (k * n) ≠ 0 := pow_ne_zero _ (Complex.exp_ne_zero _)
          rw [← pow_eq_pow_mod _ (unityRoot_primitive hn0).pow_eq_one, ← unityRoot_pow n hp.ne_zero, ← pow_mul,
            Nat.mul_div_cancel' (Nat.dvd_of_mod_eq_zero hzero), pow_add]
          field_simp

/-! ## Sums of cosines -/

theorem fullTurn_eq : fullTurn = 360 * 3600000000000 := by decide

/-- The angle of so many angle steps. -/
noncomputable def stepAngle (j : Int) : ℝ := 2 * Real.pi * j / (360 * 3600000000000)

/-- A sum of cosines. -/
noncomputable def cosineSum (l : CosineSum) : ℝ := (l.map fun y => (y.1 : ℝ) * Real.cos (stepAngle y.2)).sum

theorem cosineSum_cons (y : Int × Int) (l : CosineSum) : cosineSum (y :: l) = y.1 * Real.cos (stepAngle y.2) + cosineSum l := by
  simp [cosineSum]

theorem unityRoot_fullTurn (j : Int) :
    unityRoot fullTurn ^ (j % (fullTurn : Int)).toNat = Complex.exp ((stepAngle j : ℝ) * Complex.I) := by
  rw [unityRoot_toNat (by decide), fullTurn_eq, stepAngle]
  push_cast
  norm_num

/-- Each cosine is half the sum of a root of unity and its conjugate. -/
theorem powerSum_cosines (l : CosineSum) : powerSum (unityRoot fullTurn)
    (l.flatMap fun y => [(y.1, (y.2 % (fullTurn : Int)).toNat), (y.1, (-y.2 % (fullTurn : Int)).toNat)]) = 2 * (cosineSum l : ℝ) := by
  induction l with
  | nil => simp [powerSum, cosineSum]
  | cons y l ih =>
    have hneg : stepAngle (-y.2) = -stepAngle y.2 := by
      unfold stepAngle
      push_cast
      ring
    rw [List.flatMap_cons, powerSum_append, ih, powerSum_cons, powerSum_cons, powerSum_nil, unityRoot_fullTurn, unityRoot_fullTurn,
      cosineSum_cons, hneg]
    push_cast
    rw [Complex.cos]
    ring

theorem cosineSum_eq_zero {l : CosineSum} (h : sumVanishes l = true) : cosineSum l = 0 := by
  have hprime : ∀ p ∈ turnPrimes, p.Prime := by
    intro p hp
    obtain rfl | rfl | rfl : p = 2 ∨ p = 3 ∨ p = 5 := by
      simpa [turnPrimes, List.mem_replicate, or_assoc] using hp
    · exact Nat.prime_two
    · exact Nat.prime_three
    · exact Nat.prime_five
  have hprod : turnPrimes.prod = fullTurn := by decide
  have hzero := powerSum_cosines l
  rw [rootsVanish_sound hprime hprod (by exact h)] at hzero
  have hzero : (2 * cosineSum l : ℝ) = 0 := by exact_mod_cast hzero.symm
  linarith

theorem tideRoundingTakesHalvesAwayFromZero : Claim.TideRoundingTakesHalvesAwayFromZero := by
  refine ⟨fun a b hb => rounded_roundDiv a hb, fun l h => cosineSum_eq_zero h, fun d l lo hi hends hne hzero => ?_⟩
  obtain ⟨rfl, rfl⟩ : (roundedEnds d l).1 = lo ∧ (roundedEnds d l).2 = hi := by
    rw [hends]
    exact ⟨rfl, rfl⟩
  exact roundSum_half hne hzero

end Sys2Proof.Machine
end

section
/-! PROOFS. How near the formed cosines are to the cosines, at 40 places (R56; log 9). -/

namespace Sys2Proof.Machine

-- One theorem at a time: side by side, the proofs ask for more threads than the check's memory limit has stacks for.
set_option Elab.async false

/-! ## The series of sine and cosine -/

/-- The alternating series a^k/k! - a^(k+2)/(k+2)! + ..., so many terms of it. -/
noncomputable def seriesSum (a : ℝ) : Nat → Nat → ℝ
  | 0, _ => 0
  | n + 1, k => a ^ k / k.factorial - seriesSum a n (k + 2)

theorem seriesSum_eq (a : ℝ) (n k : Nat) :
    seriesSum a n k = ∑ i ∈ Finset.range n, (-1) ^ i * (a ^ (k + 2 * i) / (k + 2 * i).factorial) := by
  induction n generalizing k with
  | zero => rfl
  | succ n ih =>
    have hnext : ∀ i ∈ Finset.range n, (-1 : ℝ) ^ (i + 1) * (a ^ (k + 2 * (i + 1)) / (k + 2 * (i + 1)).factorial) =
        -((-1) ^ i * (a ^ (k + 2 + 2 * i) / (k + 2 + 2 * i).factorial)) := fun i _ => by
      rw [show k + 2 * (i + 1) = k + 2 + 2 * i by ring, pow_succ]
      ring
    rw [seriesSum, ih, Finset.sum_range_succ', Finset.sum_congr rfl hnext, Finset.sum_neg_distrib]
    simp only [mul_zero, add_zero, pow_zero, one_mul]
    ring

/-- The two series are the parts of the exponential series. -/
theorem expSum_eq (a : ℝ) (n : Nat) : ∑ m ∈ Finset.range (2 * n), ((a : ℂ) * Complex.I) ^ m / m.factorial =
    (seriesSum a n 0 : ℝ) + (seriesSum a n 1 : ℝ) * Complex.I := by
  have heven (i : Nat) : ((a : ℂ) * Complex.I) ^ (2 * i) = (-1) ^ i * (a : ℂ) ^ (2 * i) := by
    rw [mul_pow, pow_mul Complex.I, Complex.I_sq]
    ring
  rw [seriesSum_eq, seriesSum_eq]
  induction n with
  | zero => simp
  | succ n ih =>
    rw [show 2 * (n + 1) = 2 * n + 1 + 1 by ring, Finset.sum_range_succ, Finset.sum_range_succ, ih, Finset.sum_range_succ,
      Finset.sum_range_succ, pow_succ, heven, zero_add, add_comm 1 (2 * n)]
    push_cast
    ring

theorem remainder_le {a : ℝ} (h0 : 0 ≤ a) (h1 : a ≤ 8 / 5) :
    ‖Complex.exp (a * Complex.I) - ∑ m ∈ Finset.range 80, ((a : ℂ) * Complex.I) ^ m / m.factorial‖ ≤ 1 / 10 ^ 40 := by
  have hnorm : ‖(a : ℂ) * Complex.I‖ = a := by
    rw [norm_mul, Complex.norm_I, mul_one, Complex.norm_real, Real.norm_of_nonneg h0]
  have hbound := Complex.exp_bound' (x := (a : ℂ) * Complex.I) (n := 80) (by
    rw [hnorm]
    norm_num
    linarith)
  rw [hnorm] at hbound
  refine hbound.trans ?_
  have hpow : a ^ 80 ≤ (8 / 5) ^ 80 := pow_le_pow_left₀ h0 h1 80
  have hsmall : ((8 : ℝ) / 5) ^ 80 / (Nat.factorial 80) * 2 ≤ 1 / 10 ^ 40 := by norm_num [Nat.factorial]
  refine le_trans ?_ hsmall
  gcongr

theorem cos_series {a : ℝ} (h0 : 0 ≤ a) (h1 : a ≤ 8 / 5) : |Real.cos a - seriesSum a 40 0| ≤ 1 / 10 ^ 40 := by
  have h := (Complex.abs_re_le_norm _).trans (remainder_le h0 h1)
  rw [expSum_eq a 40, Complex.exp_mul_I] at h
  simpa [Complex.cos_ofReal_re, Complex.sin_ofReal_re, Complex.cos_ofReal_im, Complex.sin_ofReal_im] using h

theorem sin_series {a : ℝ} (h0 : 0 ≤ a) (h1 : a ≤ 8 / 5) : |Real.sin a - seriesSum a 40 1| ≤ 1 / 10 ^ 40 := by
  have h := (Complex.abs_im_le_norm _).trans (remainder_le h0 h1)
  rw [expSum_eq a 40, Complex.exp_mul_I] at h
  simpa [Complex.cos_ofReal_re, Complex.sin_ofReal_re, Complex.cos_ofReal_im, Complex.sin_ofReal_im] using h

/-! ## The series as formed -/

/-- A value at 40 places. -/
noncomputable def at40 (z : Int) : ℝ := z / 10 ^ 40

theorem natDiv_near (a : Nat) {b : Nat} (hb : 0 < b) : |((a / b : Nat) : ℝ) - a / b| ≤ 1 := by
  have hpos : (0 : ℝ) < b := by exact_mod_cast hb
  have hlow : ((a / b : Nat) : ℝ) ≤ a / b := Nat.cast_div_le
  have hhigh : (a : ℝ) / b < (a / b : Nat) + 1 := by
    rw [div_lt_iff₀ hpos]
    exact_mod_cast (Nat.lt_mul_div_succ a hb).trans_eq (Nat.mul_comm ..)
  rw [abs_le]
  constructor <;> linarith

/-- The circle constant at 40 places is right to 20. -/
theorem pi40_near : |((precision 40).pi : ℝ) / 10 ^ 40 - Real.pi| ≤ 1 / 10 ^ 20 := by
  have hdigits : 314159265358979323846 * 10 ^ 20 ≤ (precision 40).pi ∧ (precision 40).pi ≤ 314159265358979323847 * 10 ^ 20 := by
    decide +kernel
  obtain ⟨hlow, hhigh⟩ := hdigits
  have hlow : (314159265358979323846 * 10 ^ 20 : ℝ) ≤ (precision 40).pi := by exact_mod_cast hlow
  have hhigh : ((precision 40).pi : ℝ) ≤ 314159265358979323847 * 10 ^ 20 := by exact_mod_cast hhigh
  have h1 := Real.pi_gt_d20
  have h2 := Real.pi_lt_d20
  generalize ((precision 40).pi : ℝ) = x at *
  rw [abs_le]
  constructor <;> linarith

theorem term_next (a : ℝ) (k : Nat) :
    a ^ (k + 2) / (k + 2).factorial = a ^ k / k.factorial * a ^ 2 / ((k + 1) * (k + 2)) := by
  have hk : (k.factorial : ℝ) ≠ 0 := by exact_mod_cast k.factorial_ne_zero
  rw [Nat.factorial_succ, Nat.factorial_succ]
  push_cast
  field_simp
  ring

theorem term_le {a : ℝ} (h0 : 0 ≤ a) (h1 : a ≤ 8 / 5) (k : Nat) : a ^ k / k.factorial ≤ 8 / 5 := by
  cases k with
  | zero => norm_num
  | succ k =>
    induction k with
    | zero => simpa using h1
    | succ k ih =>
      have hk : (k.factorial : ℝ) ≠ 0 := by exact_mod_cast k.factorial_ne_zero
      have hstep : a ^ (k + 1 + 1) / (k + 1 + 1).factorial = a ^ (k + 1) / (k + 1).factorial * (a / (k + 2)) := by
        rw [Nat.factorial_succ (k + 1), pow_succ]
        push_cast
        field_simp
        ring
      have hle : a / ((k : ℝ) + 2) ≤ 1 := by
        rw [div_le_one (by positivity)]
        have : (0 : ℝ) ≤ k := Nat.cast_nonneg k
        linarith
      rw [hstep]
      calc a ^ (k + 1) / (k + 1).factorial * (a / (k + 2)) ≤ a ^ (k + 1) / (k + 1).factorial * 1 := by gcongr
        _ ≤ 8 / 5 := by rwa [mul_one]

/-- A term of the series as formed is near the term. -/
structure TermNear (a : ℝ) (k t : Nat) : Prop where
  near : |(t : ℝ) / 10 ^ 40 - a ^ k / k.factorial| ≤ 1 / 10 ^ 19
  first : k = 0 → t = 10 ^ 40

theorem TermNear.product_near {a : ℝ} (h0 : 0 ≤ a) (h1 : a ≤ 8 / 5) {k t x : Nat} (ht : TermNear a k t)
    (hx : |(x : ℝ) / 10 ^ 40 - a ^ 2| ≤ 4 / 10 ^ 20) :
    |(t : ℝ) / 10 ^ 40 * (x / 10 ^ 40) - a ^ k / k.factorial * a ^ 2| ≤
      6 / 10 ^ 20 * (((k : ℝ) + 1) * (k + 2)) := by
  obtain ⟨hnear, hfirst⟩ := ht
  cases k with
  | zero =>
    have hone : (t : ℝ) / 10 ^ 40 = 1 := by
      rw [hfirst rfl]
      norm_num
    rw [hone]
    norm_num at hx ⊢
    linarith
  | succ k =>
    have hsquare : a ^ 2 ≤ 64 / 25 := by nlinarith
    have hterm := term_le h0 h1 (k + 1)
    have hterm0 : 0 ≤ a ^ (k + 1) / ((k + 1).factorial : ℝ) := by positivity
    have hbound : 6 ≤ ((k + 1 : Nat) + 1 : ℝ) * ((k + 1 : Nat) + 2) := by
      have : (0 : ℝ) ≤ k := Nat.cast_nonneg k
      push_cast
      nlinarith
    generalize (t : ℝ) / 10 ^ 40 = p at *
    generalize (x : ℝ) / 10 ^ 40 = u at *
    generalize a ^ (k + 1) / ((k + 1).factorial : ℝ) = q at *
    have hp : |p| ≤ 2 := by
      rw [abs_le] at hnear ⊢
      constructor <;> linarith
    have hsplit : p * u - q * a ^ 2 = (p - q) * a ^ 2 + p * (u - a ^ 2) := by ring
    calc |p * u - q * a ^ 2| ≤ |p - q| * a ^ 2 + |p| * |u - a ^ 2| := by
          rw [hsplit, ← abs_mul, ← abs_of_nonneg (sq_nonneg a), ← abs_mul, abs_of_nonneg (sq_nonneg a)]
          exact abs_add_le _ _
      _ ≤ 1 / 10 ^ 19 * (64 / 25) + 2 * (4 / 10 ^ 20) := by gcongr
      _ ≤ 6 / 10 ^ 20 * 6 := by norm_num
      _ ≤ _ := by gcongr

/-- A step of the series: the square is off by 4 units of place 20, and the two divisions by 2 of place 40. -/
theorem TermNear.next {a : ℝ} (h0 : 0 ≤ a) (h1 : a ≤ 8 / 5) {k t x : Nat} (ht : TermNear a k t)
    (hx : |(x : ℝ) / 10 ^ 40 - a ^ 2| ≤ 4 / 10 ^ 20) : TermNear a (k + 2) (t * x / 10 ^ 40 / ((k + 1) * (k + 2))) := by
  refine ⟨?_, fun h => by omega⟩
  have hpos : (0 : ℝ) < (k + 1) * (k + 2) := by positivity
  have hdiv : |((t * x / 10 ^ 40 / ((k + 1) * (k + 2)) : Nat) : ℝ) / 10 ^ 40 -
      (t : ℝ) / 10 ^ 40 * (x / 10 ^ 40) / ((k + 1) * (k + 2))| ≤ 1 / 10 ^ 40 := by
    have hfloor := natDiv_near (t * x) (b := 10 ^ 40 * ((k + 1) * (k + 2))) (by positivity)
    rw [Nat.div_div_eq_div_mul, show (t : ℝ) / 10 ^ 40 * (x / 10 ^ 40) / ((k + 1) * (k + 2)) =
      ((t * x : Nat) : ℝ) / ((10 ^ 40 * ((k + 1) * (k + 2)) : Nat) : ℝ) / 10 ^ 40 by push_cast; field_simp; ring, ← sub_div, abs_div,
      abs_of_pos (show (0 : ℝ) < 10 ^ 40 by positivity)]
    gcongr
  have hmul : |(t : ℝ) / 10 ^ 40 * (x / 10 ^ 40) / ((k + 1) * (k + 2)) - a ^ k / k.factorial * a ^ 2 / ((k + 1) * (k + 2))| ≤
      6 / 10 ^ 20 := by
    rw [← sub_div, abs_div, abs_of_pos hpos, div_le_iff₀ hpos]
    exact ht.product_near h0 h1 hx
  rw [term_next]
  calc _ ≤ _ := abs_sub_le _ _ _
    _ ≤ 1 / 10 ^ 40 + 6 / 10 ^ 20 := add_le_add hdiv hmul
    _ ≤ 1 / 10 ^ 19 := by norm_num

theorem trigSeries_near {a : ℝ} (h0 : 0 ≤ a) (h1 : a ≤ 8 / 5) {x : Nat} (hx : |(x : ℝ) / 10 ^ 40 - a ^ 2| ≤ 4 / 10 ^ 20) (n : Nat)
    {k t : Nat} (ht : TermNear a k t) : |((trigSeries (10 ^ 40) n k x t : Int) : ℝ) / 10 ^ 40 - seriesSum a n k| ≤ (n : ℝ) / 10 ^ 19 := by
  induction n generalizing k t with
  | zero => simp [trigSeries, seriesSum]
  | succ n ih =>
    have hrest := ih (ht.next h0 h1 hx)
    have hsplit : ((trigSeries (10 ^ 40) (n + 1) k x t : Int) : ℝ) / 10 ^ 40 - seriesSum a (n + 1) k =
        ((t : ℝ) / 10 ^ 40 - a ^ k / k.factorial) -
          (((trigSeries (10 ^ 40) n (k + 2) x (t * x / 10 ^ 40 / ((k + 1) * (k + 2))) : Int) : ℝ) / 10 ^ 40 - seriesSum a n (k + 2)) := by
      rw [trigSeries, seriesSum]
      push_cast
      ring
    rw [hsplit]
    calc _ ≤ _ := abs_sub _ _
      _ ≤ 1 / 10 ^ 19 + (n : ℝ) / 10 ^ 19 := add_le_add ht.near hrest
      _ = ((n + 1 : Nat) : ℝ) / 10 ^ 19 := by
        push_cast
        ring

/-! ## A quarter turn -/

/-- So many angle steps of a quarter turn, as formed at 40 places. -/
def angle40 (j : Nat) : Nat := j * (precision 40).pi / (fullTurn / 2)

theorem cosQuarter_eq (j : Nat) :
    cosQuarter (precision 40) j = trigSeries (10 ^ 40) 40 0 (angle40 j * angle40 j / 10 ^ 40) (10 ^ 40) := rfl

theorem sinQuarter_eq (j : Nat) :
    sinQuarter (precision 40) j = trigSeries (10 ^ 40) 40 1 (angle40 j * angle40 j / 10 ^ 40) (angle40 j) := rfl

section
variable {j : Nat}

theorem stepAngle_bounds (hj : j < fullTurn / 4) : 0 ≤ stepAngle j ∧ stepAngle j ≤ 8 / 5 := by
  have hj : j < 324000000000000 := hj
  have hj : (j : ℝ) ≤ 324000000000000 := by exact_mod_cast hj.le
  have hpi := Real.pi_lt_d2
  have h0 := Real.pi_pos
  have hj0 : (0 : ℝ) ≤ j := Nat.cast_nonneg j
  unfold stepAngle
  rw [Int.cast_natCast]
  refine ⟨by positivity, ?_⟩
  rw [div_le_iff₀ (by norm_num)]
  nlinarith

theorem angle40_near (hj : j < fullTurn / 4) : |(angle40 j : ℝ) / 10 ^ 40 - stepAngle j| ≤ 1 / 10 ^ 20 := by
  have hj : j < 324000000000000 := hj
  have hj : (j : ℝ) / 648000000000000 ≤ 1 / 2 := by
    rw [div_le_iff₀ (by norm_num)]
    have : (j : ℝ) ≤ 324000000000000 := by exact_mod_cast hj.le
    linarith
  have hfloor := natDiv_near (j * (precision 40).pi) (b := fullTurn / 2) (by decide)
  have hturn : ((fullTurn / 2 : Nat) : ℝ) = 648000000000000 := by
    rw [show fullTurn / 2 = 648000000000000 by decide]
    norm_num
  have hpi := pi40_near
  rw [hturn] at hfloor
  change |(angle40 j : ℝ) - _| ≤ 1 at hfloor
  have hj0 : (0 : ℝ) ≤ (j : ℝ) / 648000000000000 := by positivity
  have hangle : stepAngle j = (j : ℝ) / 648000000000000 * Real.pi := by
    unfold stepAngle
    rw [Int.cast_natCast]
    ring
  have hscaled : |(angle40 j : ℝ) / 10 ^ 40 - (j : ℝ) / 648000000000000 * ((precision 40).pi / 10 ^ 40)| ≤ 1 / 10 ^ 40 := by
    have hsplit : (angle40 j : ℝ) / 10 ^ 40 - (j : ℝ) / 648000000000000 * ((precision 40).pi / 10 ^ 40) =
        ((angle40 j : ℝ) - ((j * (precision 40).pi : Nat) : ℝ) / 648000000000000) / 10 ^ 40 := by
      push_cast
      ring
    rw [hsplit, abs_div, abs_of_pos (show (0 : ℝ) < 10 ^ 40 by positivity)]
    gcongr
  have hcircle : |(j : ℝ) / 648000000000000 * ((precision 40).pi / 10 ^ 40) - stepAngle j| ≤ 1 / 2 * (1 / 10 ^ 20) := by
    rw [hangle, ← mul_sub, abs_mul, abs_of_nonneg hj0]
    exact mul_le_mul hj hpi (abs_nonneg _) (by norm_num)
  calc _ ≤ _ := abs_sub_le _ _ _
    _ ≤ 1 / 10 ^ 40 + 1 / 2 * (1 / 10 ^ 20) := add_le_add hscaled hcircle
    _ ≤ 1 / 10 ^ 20 := by norm_num

theorem square40_near (hj : j < fullTurn / 4) :
    |((angle40 j * angle40 j / 10 ^ 40 : Nat) : ℝ) / 10 ^ 40 - stepAngle j ^ 2| ≤ 4 / 10 ^ 20 := by
  obtain ⟨h0, h1⟩ := stepAngle_bounds hj
  have hnear := angle40_near hj
  have hfloor := natDiv_near (angle40 j * angle40 j) (b := 10 ^ 40) (by positivity)
  have hscaled : |((angle40 j * angle40 j / 10 ^ 40 : Nat) : ℝ) / 10 ^ 40 - ((angle40 j : ℝ) / 10 ^ 40) ^ 2| ≤ 1 / 10 ^ 40 := by
    have hsplit : ((angle40 j * angle40 j / 10 ^ 40 : Nat) : ℝ) / 10 ^ 40 - ((angle40 j : ℝ) / 10 ^ 40) ^ 2 =
        (((angle40 j * angle40 j / 10 ^ 40 : Nat) : ℝ) - ((angle40 j * angle40 j : Nat) : ℝ) / ((10 ^ 40 : Nat) : ℝ)) / 10 ^ 40 := by
      push_cast
      ring
    rw [hsplit, abs_div, abs_of_pos (show (0 : ℝ) < 10 ^ 40 by positivity)]
    gcongr
  have hsquare : |((angle40 j : ℝ) / 10 ^ 40) ^ 2 - stepAngle j ^ 2| ≤ 1 / 10 ^ 20 * (17 / 5) := by
    generalize (angle40 j : ℝ) / 10 ^ 40 = p at *
    have hsum : |p + stepAngle j| ≤ 17 / 5 := by
      rw [abs_le] at hnear ⊢
      constructor <;> linarith
    rw [sq_sub_sq, mul_comm, abs_mul]
    gcongr
  calc _ ≤ _ := abs_sub_le _ _ _
    _ ≤ 1 / 10 ^ 40 + 1 / 10 ^ 20 * (17 / 5) := add_le_add hscaled hsquare
    _ ≤ 4 / 10 ^ 20 := by norm_num

theorem cosQuarter_near (hj : j < fullTurn / 4) : |at40 (cosQuarter (precision 40) j) - Real.cos (stepAngle j)| ≤ 5 / 10 ^ 18 := by
  obtain ⟨h0, h1⟩ := stepAngle_bounds hj
  have hterm : TermNear (stepAngle j) 0 (10 ^ 40) := ⟨by norm_num, fun _ => rfl⟩
  have hseries := trigSeries_near h0 h1 (square40_near hj) 40 hterm
  have hcos := cos_series h0 h1
  rw [abs_sub_comm] at hcos
  rw [cosQuarter_eq, at40]
  calc _ ≤ _ := abs_sub_le _ _ _
    _ ≤ ((40 : Nat) : ℝ) / 10 ^ 19 + 1 / 10 ^ 40 := add_le_add hseries hcos
    _ ≤ 5 / 10 ^ 18 := by norm_num

theorem sinQuarter_near (hj : j < fullTurn / 4) : |at40 (sinQuarter (precision 40) j) - Real.sin (stepAngle j)| ≤ 5 / 10 ^ 18 := by
  obtain ⟨h0, h1⟩ := stepAngle_bounds hj
  have hterm : TermNear (stepAngle j) 1 (angle40 j) := by
    refine ⟨?_, fun h => absurd h one_ne_zero⟩
    rw [pow_one, Nat.factorial_one, Nat.cast_one, div_one]
    exact (angle40_near hj).trans (by norm_num)
  have hseries := trigSeries_near h0 h1 (square40_near hj) 40 hterm
  have hsin := sin_series h0 h1
  rw [abs_sub_comm] at hsin
  rw [sinQuarter_eq, at40]
  calc _ ≤ _ := abs_sub_le _ _ _
    _ ≤ ((40 : Nat) : ℝ) / 10 ^ 19 + 1 / 10 ^ 40 := add_le_add hseries hsin
    _ ≤ 5 / 10 ^ 18 := by norm_num

end

/-! ## Any angle -/

/-- An angle is whole turns, whole quarter turns and a rest. -/
theorem stepAngle_split (j : Int) : ∃ (i r : Nat) (m : Int), i < 4 ∧ r < fullTurn / 4 ∧
    (j % (fullTurn : Int)).toNat / (fullTurn / 4) = i ∧ (j % (fullTurn : Int)).toNat % (fullTurn / 4) = r ∧
    stepAngle j = stepAngle r + i * (Real.pi / 2) + m * (2 * Real.pi) := by
  have hturn : (fullTurn : Int) = 1296000000000000 := by decide
  have hquarter : fullTurn / 4 = 324000000000000 := by decide
  rw [hturn, hquarter]
  obtain ⟨i, hi⟩ : ∃ i, (j % 1296000000000000).toNat / 324000000000000 = i := ⟨_, rfl⟩
  obtain ⟨r, hr⟩ : ∃ r, (j % 1296000000000000).toNat % 324000000000000 = r := ⟨_, rfl⟩
  refine ⟨i, r, j / 1296000000000000, by omega, by omega, hi, hr, ?_⟩
  have hj : j = r + 324000000000000 * i + 1296000000000000 * (j / 1296000000000000) := by omega
  have hreal : (j : ℝ) = r + 324000000000000 * i + 1296000000000000 * ((j / 1296000000000000 : Int) : ℝ) := by
    exact_mod_cast congrArg (Int.cast : Int → ℝ) hj
  unfold stepAngle
  rw [hreal, Int.cast_natCast]
  ring

/-- The cosine of so many whole quarter turns and a rest, by the cosine or the sine of the rest. -/
def quarterTurns (x : Precision) (r : Nat) : Nat → Int
  | 0 => cosQuarter x r
  | 1 => -sinQuarter x r
  | 2 => -cosQuarter x r
  | _ => sinQuarter x r

theorem cosSteps_eq (x : Precision) (j : Int) : cosSteps x j =
    quarterTurns x ((j % (fullTurn : Int)).toNat % (fullTurn / 4)) ((j % (fullTurn : Int)).toNat / (fullTurn / 4)) := rfl

theorem at40_neg (z : Int) : at40 (-z) = -at40 z := by
  unfold at40
  push_cast
  ring

theorem quarterTurns_near {x : Precision} {r : Nat} {b : ℝ} (hcos : |at40 (cosQuarter x r) - Real.cos (stepAngle r)| ≤ b)
    (hsin : |at40 (sinQuarter x r) - Real.sin (stepAngle r)| ≤ b) {i : Nat} (hi : i < 4) :
    |at40 (quarterTurns x r i) - Real.cos (stepAngle r + i * (Real.pi / 2))| ≤ b := by
  obtain rfl | rfl | rfl | rfl : i = 0 ∨ i = 1 ∨ i = 2 ∨ i = 3 := by omega
  · rw [quarterTurns, Nat.cast_zero, zero_mul, add_zero]
    exact hcos
  · rw [quarterTurns, Nat.cast_one, one_mul, Real.cos_add_pi_div_two, at40_neg, ← neg_sub', abs_neg]
    exact hsin
  · rw [quarterTurns, Nat.cast_ofNat, mul_div_cancel₀ _ two_ne_zero, Real.cos_add_pi, at40_neg, ← neg_sub', abs_neg]
    exact hcos
  · have hthree : stepAngle r + ((3 : Nat) : ℝ) * (Real.pi / 2) = stepAngle r + Real.pi + Real.pi / 2 := by
      push_cast
      ring
    have hlast : quarterTurns x r 3 = sinQuarter x r := rfl
    rw [hlast, hthree, Real.cos_add_pi_div_two, Real.sin_add_pi, neg_neg]
    exact hsin

theorem cosSteps_near (j : Int) : |at40 (cosSteps (precision 40) j) - Real.cos (stepAngle j)| ≤ 5 / 10 ^ 18 := by
  obtain ⟨i, r, m, hi, hr, hdiv, hmod, hangle⟩ := stepAngle_split j
  rw [hangle, Real.cos_add_int_mul_two_pi, cosSteps_eq, hdiv, hmod]
  exact quarterTurns_near (cosQuarter_near hr) (sinQuarter_near hr) hi

/-! ## A sum of cosines and its rounding -/

/-- The weights of a sum of cosines, without their signs. -/
def weightSum (l : CosineSum) : Nat := (l.map fun y => y.1.natAbs).sum

theorem weightSum_cons (y : Int × Int) (l : CosineSum) : weightSum (y :: l) = y.1.natAbs + weightSum l := by simp [weightSum]

theorem formSum_near (l : CosineSum) : |at40 (formSum (precision 40) l) - cosineSum l| ≤ (weightSum l : ℝ) * (5 / 10 ^ 18) := by
  induction l with
  | nil => simp [formSum, cosineSum, weightSum, at40]
  | cons y l ih =>
    have hsplit : at40 (formSum (precision 40) (y :: l)) - cosineSum (y :: l) =
        y.1 * (at40 (cosSteps (precision 40) y.2) - Real.cos (stepAngle y.2)) + (at40 (formSum (precision 40) l) - cosineSum l) := by
      rw [cosineSum_cons]
      simp only [formSum, List.map_cons, List.sum_cons, at40]
      push_cast
      ring
    rw [hsplit, weightSum_cons]
    calc _ ≤ _ := abs_add_le _ _
      _ ≤ |(y.1 : ℝ)| * (5 / 10 ^ 18) + (weightSum l : ℝ) * (5 / 10 ^ 18) := by
        rw [abs_mul]
        exact add_le_add (mul_le_mul_of_nonneg_left (cosSteps_near _) (abs_nonneg _)) ih
      _ = ((y.1.natAbs + weightSum l : Nat) : ℝ) * (5 / 10 ^ 18) := by
        push_cast
        rw [Nat.cast_natAbs]
        push_cast
        ring

/-- One end of the margin about a sum, rounded, is within a half and a little more of the sum. -/
theorem roundedEnd_near {d : Nat} (hd : 0 < d) (l : CosineSum) {e : Int} (he : |(e : ℝ)| ≤ 4000 * (weightSum l : ℝ)) :
    |((roundDiv (formSum (precision 40) l + e) (d * 10 ^ 40) : Int) : ℝ) - cosineSum l / d| ≤ 1 / 2 + (weightSum l : ℝ) / d / 10 ^ 17 := by
  have hpos : (0 : ℝ) < d := by exact_mod_cast hd
  obtain ⟨hround, -⟩ := rounded_roundDiv (formSum (precision 40) l + e) (b := d * 10 ^ 40) (by positivity)
  rw [abs_sub_comm] at hround
  have hsplit : ((formSum (precision 40) l + e : Int) : ℝ) / ((d * 10 ^ 40 : Nat) : ℝ) - cosineSum l / d =
      ((at40 (formSum (precision 40) l) - cosineSum l) + e / 10 ^ 40) / d := by
    unfold at40
    push_cast
    field_simp
    ring
  have hsum : |(at40 (formSum (precision 40) l) - cosineSum l) + e / 10 ^ 40| ≤ (weightSum l : ℝ) * (1 / 10 ^ 17) := by
    have hsmall : |(e : ℝ) / 10 ^ 40| ≤ (weightSum l : ℝ) * (4000 / 10 ^ 40) := by
      rw [abs_div, abs_of_pos (show (0 : ℝ) < 10 ^ 40 by positivity), div_le_iff₀ (by positivity)]
      linarith
    calc _ ≤ _ := abs_add_le _ _
      _ ≤ (weightSum l : ℝ) * (5 / 10 ^ 18) + (weightSum l : ℝ) * (4000 / 10 ^ 40) := add_le_add (formSum_near l) hsmall
      _ = (weightSum l : ℝ) * (5 / 10 ^ 18 + 4000 / 10 ^ 40) := by ring
      _ ≤ (weightSum l : ℝ) * (1 / 10 ^ 17) := by
        gcongr
        norm_num
  calc _ ≤ _ := abs_sub_le _ _ _
    _ ≤ 1 / 2 + (weightSum l : ℝ) * (1 / 10 ^ 17) / d := by
      refine add_le_add hround ?_
      rw [hsplit, abs_div, abs_of_pos hpos]
      gcongr
    _ = 1 / 2 + (weightSum l : ℝ) / d / 10 ^ 17 := by ring

theorem roundSum_near {d : Nat} (hd : 0 < d) (l : CosineSum) :
    |((roundSum d l : Int) : ℝ) - cosineSum l / d| ≤ 1 / 2 + (weightSum l : ℝ) / d / 10 ^ 17 := by
  have hmargin : formMargin (precision 40) l = 4000 * weightSum l := rfl
  have hsize : |((formMargin (precision 40) l : Int) : ℝ)| ≤ 4000 * (weightSum l : ℝ) := by
    rw [hmargin]
    push_cast
    exact (abs_of_nonneg (by positivity)).le
  obtain ⟨h | h, -⟩ := roundSum_ends d l
  · rw [h]
    exact roundedEnd_near hd l (e := -(formMargin (precision 40) l : Int)) (by push_cast at hsize ⊢; rwa [abs_neg])
  · rw [h]
    exact roundedEnd_near hd l hsize

end Sys2Proof.Machine
end

section
/-! PROOFS. The tide correction: the exact sum as a sum of cosines, and its rounding (R56): O60. -/

namespace Sys2Proof.Machine

-- One theorem at a time: side by side, the proofs ask for more threads than the check's memory limit has stacks for.
set_option Elab.async false

/-! ## Angles -/

theorem stepAngle_add (a b : Int) : stepAngle (a + b) = stepAngle a + stepAngle b := by
  unfold stepAngle
  push_cast
  ring

theorem stepAngle_sub (a b : Int) : stepAngle (a - b) = stepAngle a - stepAngle b := by
  unfold stepAngle
  push_cast
  ring

theorem stepAngle_mul (k : Nat) (a : Int) : stepAngle (k * a) = k * stepAngle a := by
  unfold stepAngle
  push_cast
  ring

theorem phaseStep_eq : phaseStep = 3600000000000 := by decide

theorem stepAngle_right : stepAngle (90 * phaseStep) = Real.pi / 2 := by
  rw [phaseStep_eq, stepAngle]
  push_cast
  ring

theorem stepAngle_lat (lat : Int) : stepAngle (lat * 3600000) = (lat : ℝ) / 1000000 * (Real.pi / 180) := by
  unfold stepAngle
  push_cast
  ring

theorem stepAngle_phaseOf (c : Constituent) (lag lon : Int) (elapsed : Nat) : stepAngle (phaseOf c lag lon elapsed) =
    ((c.argument : ℝ) / 10000 + (c.speed : ℝ) / 10000 * ((elapsed : ℝ) / 3600000) + c.species * ((lon : ℝ) / 1000000) -
      (lag : ℝ) / 10000) * (Real.pi / 180) := by
  unfold stepAngle phaseOf
  push_cast
  ring

/-! ## One constituent -/

/-- The products of the latitude functions with the cosine of a phase, written as sums. -/
theorem latitudeCosines_sum {species : Nat} (hs : species ≤ 3) (lat phase : Int) {f : Nat → ℝ}
    (h0 : f 0 = 1 - 3 * Real.sin (stepAngle lat) ^ 2) (h1 : f 1 = Real.sin (2 * stepAngle lat))
    (h2 : f 2 = Real.cos (stepAngle lat) ^ 2) (h3 : f 3 = Real.cos (stepAngle lat) ^ 3) :
    cosineSum (latitudeCosines species lat phase) = 8 * f species * Real.cos (stepAngle phase) := by
  have htwo : stepAngle (2 * lat) = 2 * stepAngle lat := stepAngle_mul 2 lat
  have hthree : stepAngle (3 * lat) = 3 * stepAngle lat := stepAngle_mul 3 lat
  have hsum (a b : ℝ) : Real.cos (a + b) + Real.cos (a - b) = 2 * Real.cos a * Real.cos b := by
    rw [Real.cos_add, Real.cos_sub]
    ring
  have hsq := Real.sin_sq_add_cos_sq (stepAngle lat)
  obtain rfl | rfl | rfl | rfl : species = 0 ∨ species = 1 ∨ species = 2 ∨ species = 3 := by omega
  · have hpair := hsum (stepAngle phase) (2 * stepAngle lat)
    rw [Real.cos_two_mul] at hpair
    simp only [latitudeCosines, cosineSum, List.map_cons, List.map_nil, List.sum_cons, List.sum_nil, stepAngle_add, stepAngle_sub, htwo]
    rw [h0]
    push_cast
    linear_combination 6 * hpair + 24 * Real.cos (stepAngle phase) * hsq
  · have hpair := hsum (stepAngle phase) (2 * stepAngle lat - Real.pi / 2)
    rw [Real.cos_sub_pi_div_two] at hpair
    simp only [latitudeCosines, cosineSum, List.map_cons, List.map_nil, List.sum_cons, List.sum_nil, stepAngle_add, stepAngle_sub, htwo,
      stepAngle_right]
    rw [h1, show stepAngle phase + 2 * stepAngle lat - Real.pi / 2 = stepAngle phase + (2 * stepAngle lat - Real.pi / 2) by ring,
      show stepAngle phase - 2 * stepAngle lat + Real.pi / 2 = stepAngle phase - (2 * stepAngle lat - Real.pi / 2) by ring]
    push_cast
    linear_combination 4 * hpair
  · have hpair := hsum (stepAngle phase) (2 * stepAngle lat)
    rw [Real.cos_two_mul] at hpair
    simp only [latitudeCosines, cosineSum, List.map_cons, List.map_nil, List.sum_cons, List.sum_nil, stepAngle_add, stepAngle_sub, htwo]
    rw [h2]
    push_cast
    linear_combination 2 * hpair
  · have hone := hsum (stepAngle phase) (stepAngle lat)
    have hpair := hsum (stepAngle phase) (3 * stepAngle lat)
    rw [Real.cos_three_mul] at hpair
    simp only [latitudeCosines, cosineSum, List.map_cons, List.map_nil, List.sum_cons, List.sum_nil, stepAngle_add, stepAngle_sub, hthree]
    rw [h3]
    push_cast
    linear_combination 3 * hone + hpair

theorem latitudeCosines_weight {species : Nat} (hs : species ≤ 3) (lat phase : Int) :
    weightSum (latitudeCosines species lat phase) ≤ 16 := by
  obtain rfl | rfl | rfl | rfl : species = 0 ∨ species = 1 ∨ species = 2 ∨ species = 3 := by omega
  all_goals simp [latitudeCosines, weightSum]

/-- A sum of cosines with its weights multiplied. -/
def weighed (w : Int) (l : CosineSum) : CosineSum := l.map fun y => (-(w * y.1), y.2)

theorem weighed_sum (w : Int) (l : CosineSum) : cosineSum (weighed w l) = -(w * cosineSum l) := by
  induction l with
  | nil => simp [cosineSum, weighed]
  | cons y l ih =>
    have hcons : weighed w (y :: l) = (-(w * y.1), y.2) :: weighed w l := rfl
    rw [hcons, cosineSum_cons, cosineSum_cons, ih]
    push_cast
    ring

theorem weighed_weight (w : Int) (l : CosineSum) : weightSum (weighed w l) = w.natAbs * weightSum l := by
  induction l with
  | nil => simp [weightSum, weighed]
  | cons y l ih =>
    have hcons : weighed w (y :: l) = (-(w * y.1), y.2) :: weighed w l := rfl
    rw [hcons, weightSum_cons, weightSum_cons, ih, Int.natAbs_neg, Int.natAbs_mul]
    ring

/-- The adjustment of a constituent: the factor and lag of the entry of its code, 1000 and 0 without one. -/
def adjustment (r : StationRecord) (c : Constituent) : Int × Int :=
  match r.adjust.find? fun e => e.code == c.code with
  | some e => (e.factor, e.lag)
  | none => (1000, 0)

theorem tideTerm_eq (r : StationRecord) (elapsed : Nat) (c : Constituent) : tideTerm r elapsed c =
    weighed (r.delta * c.amplitude * (adjustment r c).1 * (63710000 + r.pos.height))
      (latitudeCosines c.species (r.pos.lat * 3600000) (phaseOf c (adjustment r c).2 r.pos.lon elapsed)) := by
  unfold tideTerm adjustment weighed
  dsimp only
  cases r.adjust.find? fun e => e.code == c.code <;> rfl

theorem adjustment_eq {r : StationRecord} {c : Constituent} {F lag : Int}
    (hsome : ∀ e ∈ r.adjust, e.code = c.code → F = e.factor ∧ lag = e.lag)
    (hnone : (∀ e ∈ r.adjust, e.code ≠ c.code) → F = 1000 ∧ lag = 0) : adjustment r c = (F, lag) := by
  unfold adjustment
  cases hf : r.adjust.find? fun e => e.code == c.code with
  | none =>
    obtain ⟨rfl, rfl⟩ := hnone fun e he => by simpa using List.find?_eq_none.mp hf e he
    rfl
  | some e =>
    obtain ⟨rfl, rfl⟩ := hsome e (List.mem_of_find?_eq_some hf) (by simpa using List.find?_some hf)
    rfl

theorem adjustment_range {r : StationRecord} (h : adjustOk r.adjust = true) (c : Constituent) :
    500 ≤ (adjustment r c).1 ∧ (adjustment r c).1 ≤ 1500 := by
  unfold adjustment
  cases hf : r.adjust.find? fun e => e.code == c.code with
  | none => exact ⟨by decide, by decide⟩
  | some e =>
    simp only [adjustOk, Bool.and_eq_true, List.all_eq_true] at h
    obtain ⟨⟨-, hall⟩, -⟩ := h
    have hentry := hall e (List.mem_of_find?_eq_some hf)
    simp only [adjEntryOk, within, Bool.and_eq_true, decide_eq_true_eq] at hentry
    exact hentry.1.2

/-! ## Every constituent -/

theorem cosineSum_append (l k : CosineSum) : cosineSum (l ++ k) = cosineSum l + cosineSum k := by simp [cosineSum]

theorem weightSum_append (l k : CosineSum) : weightSum (l ++ k) = weightSum l + weightSum k := by simp [weightSum]

/-- A constituent in range has a weight of at most 16 times the greatest product of its factors. -/
theorem tideTerm_weight {r : StationRecord} {c : Constituent} (hd : deltaOk r.delta = true) (hp : positionOk r.pos = true)
    (ha : adjustOk r.adjust = true) (hc : constituentOk c = true) (elapsed : Nat) :
    weightSum (tideTerm r elapsed c) ≤ 1300 * 200000 * 1500 * 63800000 * 16 := by
  obtain ⟨hf1, hf2⟩ := adjustment_range ha c
  simp only [deltaOk, within, Bool.and_eq_true, decide_eq_true_eq] at hd
  simp only [positionOk, within, Bool.and_eq_true, decide_eq_true_eq] at hp
  simp only [constituentOk, between, within, Bool.and_eq_true, decide_eq_true_eq] at hc
  obtain ⟨-, hh1, hh2⟩ := hp
  obtain ⟨⟨⟨⟨-, hs⟩, hamp⟩, -⟩, -⟩ := hc
  have hdelta : r.delta.natAbs ≤ 1300 := by omega
  have hamplitude : (c.amplitude : Int).natAbs ≤ 200000 := by omega
  have hfactor : (adjustment r c).1.natAbs ≤ 1500 := by omega
  have hheight : (63710000 + r.pos.height).natAbs ≤ 63800000 := by omega
  rw [tideTerm_eq, weighed_weight, Int.natAbs_mul, Int.natAbs_mul, Int.natAbs_mul]
  exact Nat.mul_le_mul (Nat.mul_le_mul (Nat.mul_le_mul (Nat.mul_le_mul hdelta hamplitude) hfactor) hheight)
    (latitudeCosines_weight hs _ _)

theorem tideTerms_weight {r : StationRecord} {l : List Constituent} (hd : deltaOk r.delta = true) (hp : positionOk r.pos = true)
    (ha : adjustOk r.adjust = true) (hl : ∀ c ∈ l, constituentOk c = true) (elapsed : Nat) :
    weightSum (l.flatMap (tideTerm r elapsed)) ≤ l.length * (1300 * 200000 * 1500 * 63800000 * 16) := by
  induction l with
  | nil => simp [weightSum]
  | cons c l ih =>
    obtain ⟨hc, hl⟩ := List.forall_mem_cons.mp hl
    have hone := tideTerm_weight hd hp ha hc elapsed
    have hrest := ih hl
    rw [List.flatMap_cons, weightSum_append, List.length_cons]
    omega

theorem tideTerms_sum {r : StationRecord} {l : List Constituent} {elapsed : Nat} {d : ℝ} {g : Constituent → ℝ}
    (h : ∀ c ∈ l, cosineSum (tideTerm r elapsed c) / d = -g c) :
    cosineSum (l.flatMap (tideTerm r elapsed)) / d = -(l.map g).sum := by
  induction l with
  | nil => simp [cosineSum]
  | cons c l ih =>
    obtain ⟨hc, hl⟩ := List.forall_mem_cons.mp h
    rw [List.flatMap_cons, cosineSum_append, add_div, hc, ih hl, List.map_cons, List.sum_cons, neg_add]

theorem tideCorrectionIsNearTheExactSum : Claim.TideCorrectionIsNearTheExactSum := by
  intro r p t F lag phi f phase X hd hp ha hterms hcount hlength hstart hend hsome hnone hphi h0 h1 h2 h3 hphase hX
  have hlat : stepAngle (r.pos.lat * 3600000) = phi := (stepAngle_lat _).trans hphi.symm
  have hterm : ∀ c ∈ p.terms, cosineSum (tideTerm r (t - p.start) c) / ((8 * 10 ^ 8 * 63710000 : Nat) : ℝ) =
      -((r.delta : ℝ) / 1000 * ((c.amplitude : ℝ) / 100) * ((F c : ℝ) / 1000) * f c.species * (1 + (r.pos.height : ℝ) / 63710000) *
        Real.cos (phase c * (Real.pi / 180))) := fun c hc => by
    have hs : c.species ≤ 3 := by
      have hok := hterms c hc
      simp only [constituentOk, Bool.and_eq_true, decide_eq_true_eq] at hok
      exact hok.1.1.1.2
    have hangle : stepAngle (phaseOf c (lag c) r.pos.lon (t - p.start)) = phase c * (Real.pi / 180) := by
      rw [stepAngle_phaseOf, hphase, Nat.cast_sub hstart]
    rw [tideTerm_eq, adjustment_eq (hsome c hc) (hnone c hc), weighed_sum,
      latitudeCosines_sum hs _ _ (by rw [hlat]; exact h0) (by rw [hlat]; exact h1) (by rw [hlat]; exact h2) (by rw [hlat]; exact h3), hangle]
    push_cast
    ring
  have hexact : cosineSum (p.terms.flatMap (tideTerm r (t - p.start))) / ((8 * 10 ^ 8 * 63710000 : Nat) : ℝ) = X := by
    rw [hX]
    exact tideTerms_sum hterm
  have hweight : (weightSum (p.terms.flatMap (tideTerm r (t - p.start))) : ℝ) ≤ 24 * (1300 * 200000 * 1500 * 63800000 * 16) := by
    have hle := (tideTerms_weight hd hp ha hterms (t - p.start)).trans (Nat.mul_le_mul_right _ hcount)
    exact_mod_cast hle
  have hnear := roundSum_near (d := 8 * 10 ^ 8 * 63710000) (by decide) (p.terms.flatMap (tideTerm r (t - p.start)))
  rw [hexact] at hnear
  refine hnear.trans ?_
  push_cast
  linarith

/-- Settles O60: the tide correction is the exact sum of R56, rounded once, a half away from zero. -/
theorem tideCorrectionIsTheRoundedSum : Obligations.TideCorrectionIsTheRoundedSum :=
  ⟨tideCorrectionIsNearTheExactSum, tideRoundingTakesHalvesAwayFromZero⟩

end Sys2Proof.Machine
end
